-- ==== Sys2Proof/Word.lean ====
section
/-! DEFINITION. The machine's words and the names the spec gives its registers, pairs, flags,
conditions and operation fields. Byte order, field extraction and sign extension are in Decode.lean
and Machine/Ops.lean. -/

namespace Sys2Proof

/-- A `u8` (00_scope R9). -/
abbrev Byte := BitVec 8

/-- A `u16` (00_scope R9). -/
abbrev Word := BitVec 16

/-- The seven general 8-bit registers (10_state R18): what a 3-bit register field can select. -/
inductive Reg8 where
  | a | b | c | d | e | h | l
  deriving DecidableEq, Repr

/-- The 16-bit register names usable in `x[n]` (10_state R16, R17; 30_encoding R79). -/
inductive Reg16 where
  | af | bc | de | hl | sp
  deriving DecidableEq, Repr

/-- The 16-bit field `rp` (30_encoding R60). -/
inductive Rp where
  | bc | de | hl | sp
  deriving DecidableEq, Repr

/-- The 16-bit field `rp2` of PUSH and POP (30_encoding R61). -/
inductive Rp2 where
  | bc | de | hl | af
  deriving DecidableEq, Repr

/-- The condition field `cc` (30_encoding R62). -/
inductive Cc where
  | nz | z | nc | c
  deriving DecidableEq, Repr

/-- The nine conditions of the semantic layer (45_control R188); the last four have no encoding. -/
inductive Cond where
  | always | nz | z | nc | c | nn | n | nh | h
  deriving DecidableEq, Repr

/-- The arithmetic-logic field `alu` (30_encoding R63). -/
inductive AluOp where
  | add | adc | sub | sbc | and | xor | or | cp
  deriving DecidableEq, Repr

/-- The rotate and shift field `rot` (30_encoding R64). -/
inductive RotOp where
  | rlc | rrc | rl | rr | sla | sra | swap | srl
  deriving DecidableEq, Repr

/-- The 16-bit register a field `rp` names (30_encoding R60). -/
def Rp.reg : Rp → Reg16
  | .bc => .bc
  | .de => .de
  | .hl => .hl
  | .sp => .sp

/-- The 16-bit register a field `rp2` names (30_encoding R61). -/
def Rp2.reg : Rp2 → Reg16
  | .bc => .bc
  | .de => .de
  | .hl => .hl
  | .af => .af

/-- The condition a field `cc` encodes (45_control R188). -/
def Cc.cond : Cc → Cond
  | .nz => .nz
  | .z => .z
  | .nc => .nc
  | .c => .c

end Sys2Proof
end

