-- ==== Sys2Proof/Config.lean ====
section
/-! DEFINITION. The implementation parameters P1 to P10 of 00_scope R7. P1 to P8 make a `Config`,
which a state carries unchanged (70_reset_and_hazards R221); P9 is `Init`; P10 is the memory a launch
is given. -/

namespace Sys2Proof

/-- P2 `STACK_DIR`. -/
inductive StackDir where
  | up | down
  deriving DecidableEq, Repr

/-- P3 `F_LOW`: what bits 3..0 of F hold after a whole-byte write of F. -/
inductive FLow where
  | asWritten | zero | one
  deriving DecidableEq, Repr

/-- P4 `H16_MASK`: `m0100` is 0x0100, `m1000` is 0x1000. -/
inductive H16Mask where
  | m0100 | m1000
  deriving DecidableEq, Repr

/-- P5 `Z16_ADD`: whether ADD HL,rr writes Z. -/
inductive Z16Add where
  | write | keep
  deriving DecidableEq, Repr

/-- P6 `SPE_LOAD_FLAGS`: the flags of LD HL,SP+e8. -/
inductive SpeLoadFlags where
  | keep | sm83
  deriving DecidableEq, Repr

/-- P7 `U16_WRAP`: where a 16-bit access at 0xFFFF finds its high byte. -/
inductive U16Wrap where
  | wrap | linear
  deriving DecidableEq, Repr

/-- An opcode key (30_encoding R70): a primary byte, or the byte after the escape 0xCB. -/
inductive OpcodeKey where
  | primary (op : Byte)
  | escape (op2 : Byte)
  deriving DecidableEq, Repr

/-- The parameters P1 to P8 (00_scope R7). P8 `IMPLEMENTED` is held as the mapped keys it leaves out
besides HALT and STOP, which no value of P8 may contain (46_misc R201, R202); log entry 4. -/
structure Config where
  memSize : Nat
  stackDir : StackDir
  fLow : FLow
  h16Mask : H16Mask
  z16Add : Z16Add
  speLoadFlags : SpeLoadFlags
  u16Wrap : U16Wrap
  excluded : List OpcodeKey
  deriving DecidableEq, Repr

/-- The default column of R7, which defines "this hardware" (00_scope R8). -/
def Config.default : Config where
  memSize := 65536
  stackDir := .up
  fLow := .asWritten
  h16Mask := .m0100
  z16Add := .write
  speLoadFlags := .keep
  u16Wrap := .wrap
  excluded := []

/-- P1's domain: an integer 1..65536 (00_scope R7). The other parameters' types are their domains. -/
def Config.valid (c : Config) : Bool := decide (1 ≤ c.memSize) && decide (c.memSize ≤ 65536)

/-- P9 `INIT`: the register values at launch (00_scope R7; 10_state R34). -/
structure Init where
  a : Byte
  f : Byte
  b : Byte
  c : Byte
  d : Byte
  e : Byte
  h : Byte
  l : Byte
  sp : Word
  pc : Word
  deriving DecidableEq, Repr

/-- The launch `State.reset` is made from. PC = 0x0000 is R7's default. DESIGN CHOICE (unsafe, log
entry 1): the spec gives no other register a default and forbids taking one as zero (10_state R34),
so each holds 0x5A, the nonzero fill of the launch states 95_test_vectors was run from. -/
def Init.default : Init where
  a := 0x5A
  f := 0x5A
  b := 0x5A
  c := 0x5A
  d := 0x5A
  e := 0x5A
  h := 0x5A
  l := 0x5A
  sp := 0x5A5A
  pc := 0x0000

/-- What an in-range address that memory does not list reads as. DESIGN CHOICE (unsafe, log entry 2):
`MEM_INIT` has no default and may not be taken as zero (20_memory R37). -/
def Config.unlistedByte : Byte := 0x5A

end Sys2Proof
end

