-- ==== Sys2Proof/Syntax.lean ====
section
/-! DEFINITION. The instruction set as syntax: one constructor for every row of
spec/opcode_table.json, first the rows with an operand, then the rows without, each in the table's
order. A constructor carries the operands its encoding leaves free: an immediate byte n8 or e8, an
immediate word n16, or the bit number b of BIT, RES and SET (30_encoding R56, R65 to R67).
A parenthesised operand, written `Ind`, is a memory operand. STOP carries no operand: its second byte is
never fetched (46_misc R202; log entry 9). -/

namespace Sys2Proof

inductive Instr where
  | ldBcN16 (w : Word)
  | ldBN8 (n : Byte)
  | ldIndN16Sp (w : Word)
  | ldCN8 (n : Byte)
  | ldDeN16 (w : Word)
  | ldDN8 (n : Byte)
  | jrE8 (e : Byte)
  | ldEN8 (n : Byte)
  | jrNzE8 (e : Byte)
  | ldHlN16 (w : Word)
  | ldHN8 (n : Byte)
  | jrZE8 (e : Byte)
  | ldLN8 (n : Byte)
  | jrNcE8 (e : Byte)
  | ldSpN16 (w : Word)
  | ldIndHlN8 (n : Byte)
  | jrCE8 (e : Byte)
  | ldAN8 (n : Byte)
  | jpNzN16 (w : Word)
  | jpN16 (w : Word)
  | callNzN16 (w : Word)
  | addAN8 (n : Byte)
  | jpZN16 (w : Word)
  | callZN16 (w : Word)
  | callN16 (w : Word)
  | adcAN8 (n : Byte)
  | jpNcN16 (w : Word)
  | callNcN16 (w : Word)
  | subAN8 (n : Byte)
  | jpCN16 (w : Word)
  | callCN16 (w : Word)
  | sbcAN8 (n : Byte)
  | ldhIndN8A (n : Byte)
  | andAN8 (n : Byte)
  | addSpE8 (e : Byte)
  | ldIndN16A (w : Word)
  | xorAN8 (n : Byte)
  | ldhAIndN8 (n : Byte)
  | orAN8 (n : Byte)
  | ldHlSpE8 (e : Byte)
  | ldAIndN16 (w : Word)
  | cpAN8 (n : Byte)
  | bitB (b : Nat)
  | bitC (b : Nat)
  | bitD (b : Nat)
  | bitE (b : Nat)
  | bitH (b : Nat)
  | bitL (b : Nat)
  | bitIndHl (b : Nat)
  | bitA (b : Nat)
  | resB (b : Nat)
  | resC (b : Nat)
  | resD (b : Nat)
  | resE (b : Nat)
  | resH (b : Nat)
  | resL (b : Nat)
  | resIndHl (b : Nat)
  | resA (b : Nat)
  | setB (b : Nat)
  | setC (b : Nat)
  | setD (b : Nat)
  | setE (b : Nat)
  | setH (b : Nat)
  | setL (b : Nat)
  | setIndHl (b : Nat)
  | setA (b : Nat)
  | nop
  | ldIndBcA
  | incBc
  | incB
  | decB
  | rlca
  | addHlBc
  | ldAIndBc
  | decBc
  | incC
  | decC
  | rrca
  | stop
  | ldIndDeA
  | incDe
  | incD
  | decD
  | rla
  | addHlDe
  | ldAIndDe
  | decDe
  | incE
  | decE
  | rra
  | ldHliA
  | incHl
  | incH
  | decH
  | daa
  | addHlHl
  | ldAHli
  | decHl
  | incL
  | decL
  | cpl
  | ldHldA
  | incSp
  | incIndHl
  | decIndHl
  | scf
  | addHlSp
  | ldAHld
  | decSp
  | incA
  | decA
  | ccf
  | ldBB
  | ldBC
  | ldBD
  | ldBE
  | ldBH
  | ldBL
  | ldBIndHl
  | ldBA
  | ldCB
  | ldCC
  | ldCD
  | ldCE
  | ldCH
  | ldCL
  | ldCIndHl
  | ldCA
  | ldDB
  | ldDC
  | ldDD
  | ldDE
  | ldDH
  | ldDL
  | ldDIndHl
  | ldDA
  | ldEB
  | ldEC
  | ldED
  | ldEE
  | ldEH
  | ldEL
  | ldEIndHl
  | ldEA
  | ldHB
  | ldHC
  | ldHD
  | ldHE
  | ldHH
  | ldHL
  | ldHIndHl
  | ldHA
  | ldLB
  | ldLC
  | ldLD
  | ldLE
  | ldLH
  | ldLL
  | ldLIndHl
  | ldLA
  | ldIndHlB
  | ldIndHlC
  | ldIndHlD
  | ldIndHlE
  | ldIndHlH
  | ldIndHlL
  | halt
  | ldIndHlA
  | ldAB
  | ldAC
  | ldAD
  | ldAE
  | ldAH
  | ldAL
  | ldAIndHl
  | ldAA
  | addAB
  | addAC
  | addAD
  | addAE
  | addAH
  | addAL
  | addAIndHl
  | addAA
  | adcAB
  | adcAC
  | adcAD
  | adcAE
  | adcAH
  | adcAL
  | adcAIndHl
  | adcAA
  | subAB
  | subAC
  | subAD
  | subAE
  | subAH
  | subAL
  | subAIndHl
  | subAA
  | sbcAB
  | sbcAC
  | sbcAD
  | sbcAE
  | sbcAH
  | sbcAL
  | sbcAIndHl
  | sbcAA
  | andAB
  | andAC
  | andAD
  | andAE
  | andAH
  | andAL
  | andAIndHl
  | andAA
  | xorAB
  | xorAC
  | xorAD
  | xorAE
  | xorAH
  | xorAL
  | xorAIndHl
  | xorAA
  | orAB
  | orAC
  | orAD
  | orAE
  | orAH
  | orAL
  | orAIndHl
  | orAA
  | cpAB
  | cpAC
  | cpAD
  | cpAE
  | cpAH
  | cpAL
  | cpAIndHl
  | cpAA
  | retNz
  | popBc
  | pushBc
  | rst00
  | retZ
  | ret
  | rst08
  | retNc
  | popDe
  | pushDe
  | rst10
  | retC
  | reti
  | rst18
  | popHl
  | ldhIndCA
  | pushHl
  | rst20
  | jpHl
  | rst28
  | popAf
  | ldhAIndC
  | di
  | pushAf
  | rst30
  | ldSpHl
  | ei
  | rst38
  | rlcB
  | rlcC
  | rlcD
  | rlcE
  | rlcH
  | rlcL
  | rlcIndHl
  | rlcA
  | rrcB
  | rrcC
  | rrcD
  | rrcE
  | rrcH
  | rrcL
  | rrcIndHl
  | rrcA
  | rlB
  | rlC
  | rlD
  | rlE
  | rlH
  | rlL
  | rlIndHl
  | rlA
  | rrB
  | rrC
  | rrD
  | rrE
  | rrH
  | rrL
  | rrIndHl
  | rrA
  | slaB
  | slaC
  | slaD
  | slaE
  | slaH
  | slaL
  | slaIndHl
  | slaA
  | sraB
  | sraC
  | sraD
  | sraE
  | sraH
  | sraL
  | sraIndHl
  | sraA
  | swapB
  | swapC
  | swapD
  | swapE
  | swapH
  | swapL
  | swapIndHl
  | swapA
  | srlB
  | srlC
  | srlD
  | srlE
  | srlH
  | srlL
  | srlIndHl
  | srlA
  deriving DecidableEq, Repr

end Sys2Proof
end

