-- ==== Sys2Proof/WellFormed.lean ====
section
/-! DEFINITION. Which terms of `Instr` are instructions. The immediates' types are their ranges; the one
check is the bit number of BIT, RES and SET, which is the 3-bit field y (30_encoding R65). -/

namespace Sys2Proof

/-- A bit number is one of 0..7 (30_encoding R65; 44_rotate_shift_bit R182 to R187). -/
def bitNumberOk (b : Nat) : Bool := decide (b < 8)

/-- The instruction has an encoding: its bit number, where it has one, is in range. -/
def Instr.wellFormed (i : Instr) : Bool :=
  match i with
  | .ldBcN16 _ => true
  | .ldBN8 _ => true
  | .ldIndN16Sp _ => true
  | .ldCN8 _ => true
  | .ldDeN16 _ => true
  | .ldDN8 _ => true
  | .jrE8 _ => true
  | .ldEN8 _ => true
  | .jrNzE8 _ => true
  | .ldHlN16 _ => true
  | .ldHN8 _ => true
  | .jrZE8 _ => true
  | .ldLN8 _ => true
  | .jrNcE8 _ => true
  | .ldSpN16 _ => true
  | .ldIndHlN8 _ => true
  | .jrCE8 _ => true
  | .ldAN8 _ => true
  | .jpNzN16 _ => true
  | .jpN16 _ => true
  | .callNzN16 _ => true
  | .addAN8 _ => true
  | .jpZN16 _ => true
  | .callZN16 _ => true
  | .callN16 _ => true
  | .adcAN8 _ => true
  | .jpNcN16 _ => true
  | .callNcN16 _ => true
  | .subAN8 _ => true
  | .jpCN16 _ => true
  | .callCN16 _ => true
  | .sbcAN8 _ => true
  | .ldhIndN8A _ => true
  | .andAN8 _ => true
  | .addSpE8 _ => true
  | .ldIndN16A _ => true
  | .xorAN8 _ => true
  | .ldhAIndN8 _ => true
  | .orAN8 _ => true
  | .ldHlSpE8 _ => true
  | .ldAIndN16 _ => true
  | .cpAN8 _ => true
  | .bitB b => bitNumberOk b
  | .bitC b => bitNumberOk b
  | .bitD b => bitNumberOk b
  | .bitE b => bitNumberOk b
  | .bitH b => bitNumberOk b
  | .bitL b => bitNumberOk b
  | .bitIndHl b => bitNumberOk b
  | .bitA b => bitNumberOk b
  | .resB b => bitNumberOk b
  | .resC b => bitNumberOk b
  | .resD b => bitNumberOk b
  | .resE b => bitNumberOk b
  | .resH b => bitNumberOk b
  | .resL b => bitNumberOk b
  | .resIndHl b => bitNumberOk b
  | .resA b => bitNumberOk b
  | .setB b => bitNumberOk b
  | .setC b => bitNumberOk b
  | .setD b => bitNumberOk b
  | .setE b => bitNumberOk b
  | .setH b => bitNumberOk b
  | .setL b => bitNumberOk b
  | .setIndHl b => bitNumberOk b
  | .setA b => bitNumberOk b
  | .nop => true
  | .ldIndBcA => true
  | .incBc => true
  | .incB => true
  | .decB => true
  | .rlca => true
  | .addHlBc => true
  | .ldAIndBc => true
  | .decBc => true
  | .incC => true
  | .decC => true
  | .rrca => true
  | .stop => true
  | .ldIndDeA => true
  | .incDe => true
  | .incD => true
  | .decD => true
  | .rla => true
  | .addHlDe => true
  | .ldAIndDe => true
  | .decDe => true
  | .incE => true
  | .decE => true
  | .rra => true
  | .ldHliA => true
  | .incHl => true
  | .incH => true
  | .decH => true
  | .daa => true
  | .addHlHl => true
  | .ldAHli => true
  | .decHl => true
  | .incL => true
  | .decL => true
  | .cpl => true
  | .ldHldA => true
  | .incSp => true
  | .incIndHl => true
  | .decIndHl => true
  | .scf => true
  | .addHlSp => true
  | .ldAHld => true
  | .decSp => true
  | .incA => true
  | .decA => true
  | .ccf => true
  | .ldBB => true
  | .ldBC => true
  | .ldBD => true
  | .ldBE => true
  | .ldBH => true
  | .ldBL => true
  | .ldBIndHl => true
  | .ldBA => true
  | .ldCB => true
  | .ldCC => true
  | .ldCD => true
  | .ldCE => true
  | .ldCH => true
  | .ldCL => true
  | .ldCIndHl => true
  | .ldCA => true
  | .ldDB => true
  | .ldDC => true
  | .ldDD => true
  | .ldDE => true
  | .ldDH => true
  | .ldDL => true
  | .ldDIndHl => true
  | .ldDA => true
  | .ldEB => true
  | .ldEC => true
  | .ldED => true
  | .ldEE => true
  | .ldEH => true
  | .ldEL => true
  | .ldEIndHl => true
  | .ldEA => true
  | .ldHB => true
  | .ldHC => true
  | .ldHD => true
  | .ldHE => true
  | .ldHH => true
  | .ldHL => true
  | .ldHIndHl => true
  | .ldHA => true
  | .ldLB => true
  | .ldLC => true
  | .ldLD => true
  | .ldLE => true
  | .ldLH => true
  | .ldLL => true
  | .ldLIndHl => true
  | .ldLA => true
  | .ldIndHlB => true
  | .ldIndHlC => true
  | .ldIndHlD => true
  | .ldIndHlE => true
  | .ldIndHlH => true
  | .ldIndHlL => true
  | .halt => true
  | .ldIndHlA => true
  | .ldAB => true
  | .ldAC => true
  | .ldAD => true
  | .ldAE => true
  | .ldAH => true
  | .ldAL => true
  | .ldAIndHl => true
  | .ldAA => true
  | .addAB => true
  | .addAC => true
  | .addAD => true
  | .addAE => true
  | .addAH => true
  | .addAL => true
  | .addAIndHl => true
  | .addAA => true
  | .adcAB => true
  | .adcAC => true
  | .adcAD => true
  | .adcAE => true
  | .adcAH => true
  | .adcAL => true
  | .adcAIndHl => true
  | .adcAA => true
  | .subAB => true
  | .subAC => true
  | .subAD => true
  | .subAE => true
  | .subAH => true
  | .subAL => true
  | .subAIndHl => true
  | .subAA => true
  | .sbcAB => true
  | .sbcAC => true
  | .sbcAD => true
  | .sbcAE => true
  | .sbcAH => true
  | .sbcAL => true
  | .sbcAIndHl => true
  | .sbcAA => true
  | .andAB => true
  | .andAC => true
  | .andAD => true
  | .andAE => true
  | .andAH => true
  | .andAL => true
  | .andAIndHl => true
  | .andAA => true
  | .xorAB => true
  | .xorAC => true
  | .xorAD => true
  | .xorAE => true
  | .xorAH => true
  | .xorAL => true
  | .xorAIndHl => true
  | .xorAA => true
  | .orAB => true
  | .orAC => true
  | .orAD => true
  | .orAE => true
  | .orAH => true
  | .orAL => true
  | .orAIndHl => true
  | .orAA => true
  | .cpAB => true
  | .cpAC => true
  | .cpAD => true
  | .cpAE => true
  | .cpAH => true
  | .cpAL => true
  | .cpAIndHl => true
  | .cpAA => true
  | .retNz => true
  | .popBc => true
  | .pushBc => true
  | .rst00 => true
  | .retZ => true
  | .ret => true
  | .rst08 => true
  | .retNc => true
  | .popDe => true
  | .pushDe => true
  | .rst10 => true
  | .retC => true
  | .reti => true
  | .rst18 => true
  | .popHl => true
  | .ldhIndCA => true
  | .pushHl => true
  | .rst20 => true
  | .jpHl => true
  | .rst28 => true
  | .popAf => true
  | .ldhAIndC => true
  | .di => true
  | .pushAf => true
  | .rst30 => true
  | .ldSpHl => true
  | .ei => true
  | .rst38 => true
  | .rlcB => true
  | .rlcC => true
  | .rlcD => true
  | .rlcE => true
  | .rlcH => true
  | .rlcL => true
  | .rlcIndHl => true
  | .rlcA => true
  | .rrcB => true
  | .rrcC => true
  | .rrcD => true
  | .rrcE => true
  | .rrcH => true
  | .rrcL => true
  | .rrcIndHl => true
  | .rrcA => true
  | .rlB => true
  | .rlC => true
  | .rlD => true
  | .rlE => true
  | .rlH => true
  | .rlL => true
  | .rlIndHl => true
  | .rlA => true
  | .rrB => true
  | .rrC => true
  | .rrD => true
  | .rrE => true
  | .rrH => true
  | .rrL => true
  | .rrIndHl => true
  | .rrA => true
  | .slaB => true
  | .slaC => true
  | .slaD => true
  | .slaE => true
  | .slaH => true
  | .slaL => true
  | .slaIndHl => true
  | .slaA => true
  | .sraB => true
  | .sraC => true
  | .sraD => true
  | .sraE => true
  | .sraH => true
  | .sraL => true
  | .sraIndHl => true
  | .sraA => true
  | .swapB => true
  | .swapC => true
  | .swapD => true
  | .swapE => true
  | .swapH => true
  | .swapL => true
  | .swapIndHl => true
  | .swapA => true
  | .srlB => true
  | .srlC => true
  | .srlD => true
  | .srlE => true
  | .srlH => true
  | .srlL => true
  | .srlIndHl => true
  | .srlA => true

end Sys2Proof
end

