-- ==== Sys2Proof/Decode.lean ====
section
/-! DEFINITION. The decoder, written from the field layout of 30_encoding R57 to R73 (x, y, z, p, q and
the operand tables), and after it the encoder, written from the bytes of spec/opcode_table.json. The two
are independent readings of the encoding; Laws/RoundTrip.lean proves that they agree. -/

namespace Sys2Proof

/-! ### Bits and byte order -/

/-- `cat(h, l) = h * 256 + l` (00_scope R10). -/
def cat (h l : Byte) : Word := h ++ l

/-- `hi(w) = w[15:8]` (00_scope R10). -/
def hi (w : Word) : Byte := w.extractLsb' 8 8

/-- `lo(w) = w[7:0]` (00_scope R10). -/
def lo (w : Word) : Byte := w.extractLsb' 0 8

/-- `x = op[7:6]` (30_encoding R57). -/
def fieldX (op : Byte) : Nat := op.toNat / 64

/-- `y = op[5:3]` (30_encoding R57). -/
def fieldY (op : Byte) : Nat := op.toNat / 8 % 8

/-- `z = op[2:0]` (30_encoding R57). -/
def fieldZ (op : Byte) : Nat := op.toNat % 8

/-- `p = op[5:4]` (30_encoding R57). -/
def fieldP (op : Byte) : Nat := op.toNat / 16 % 4

/-- `q = op[3]` (30_encoding R57). -/
def fieldQ (op : Byte) : Nat := op.toNat / 8 % 2

/-! ### Instructions by rule

A `Form` is an instruction as the rules of 40_load8 to 46_misc name it: one constructor per rule or per
group of rules of one shape, with the fields as arguments. `Form.instr` gives the row of the opcode table. -/

/-- An instruction by its rule and fields: `rp`, `rp2`, `cc`, `alu`, `rot`, `r`, bit number, target. -/
inductive Form where
  | ldRR (dst src : Reg8)
  | ldRN8 (r : Reg8) (n : Byte)
  | ldRIndHl (r : Reg8)
  | ldIndHlR (r : Reg8)
  | ldIndHlN8 (n : Byte)
  | ldAIndBc
  | ldAIndDe
  | ldIndBcA
  | ldIndDeA
  | ldAIndN16 (w : Word)
  | ldIndN16A (w : Word)
  | ldhAIndC
  | ldhIndCA
  | ldhAIndN8 (n : Byte)
  | ldhIndN8A (n : Byte)
  | ldAHli
  | ldAHld
  | ldHliA
  | ldHldA
  | ldRpN16 (p : Rp) (w : Word)
  | ldIndN16Sp (w : Word)
  | ldSpHl
  | ldHlSpE8 (e : Byte)
  | push (p : Rp2)
  | pop (p : Rp2)
  | aluR (op : AluOp) (r : Reg8)
  | aluIndHl (op : AluOp)
  | aluN8 (op : AluOp) (n : Byte)
  | incR (r : Reg8)
  | incIndHl
  | decR (r : Reg8)
  | decIndHl
  | daa
  | cpl
  | scf
  | ccf
  | incRp (p : Rp)
  | decRp (p : Rp)
  | addHlRp (p : Rp)
  | addSpE8 (e : Byte)
  | rlca
  | rrca
  | rla
  | rra
  | rotR (op : RotOp) (r : Reg8)
  | rotIndHl (op : RotOp)
  | bitR (b : Nat) (r : Reg8)
  | bitIndHl (b : Nat)
  | resR (b : Nat) (r : Reg8)
  | resIndHl (b : Nat)
  | setR (b : Nat) (r : Reg8)
  | setIndHl (b : Nat)
  | jpN16 (w : Word)
  | jpHl
  | jpCc (cc : Cc) (w : Word)
  | jrE8 (e : Byte)
  | jrCc (cc : Cc) (e : Byte)
  | callN16 (w : Word)
  | callCc (cc : Cc) (w : Word)
  | ret
  | retCc (cc : Cc)
  | reti
  | rst (t : Fin 8)
  | nop
  | halt
  | stop
  | di
  | ei
  deriving DecidableEq, Repr

/-- The opcode table row an instruction of the rules is (30_encoding R70). -/
def Form.instr : Form → Instr
  | .ldRR .b .b => .ldBB
  | .ldRR .b .c => .ldBC
  | .ldRR .b .d => .ldBD
  | .ldRR .b .e => .ldBE
  | .ldRR .b .h => .ldBH
  | .ldRR .b .l => .ldBL
  | .ldRR .b .a => .ldBA
  | .ldRR .c .b => .ldCB
  | .ldRR .c .c => .ldCC
  | .ldRR .c .d => .ldCD
  | .ldRR .c .e => .ldCE
  | .ldRR .c .h => .ldCH
  | .ldRR .c .l => .ldCL
  | .ldRR .c .a => .ldCA
  | .ldRR .d .b => .ldDB
  | .ldRR .d .c => .ldDC
  | .ldRR .d .d => .ldDD
  | .ldRR .d .e => .ldDE
  | .ldRR .d .h => .ldDH
  | .ldRR .d .l => .ldDL
  | .ldRR .d .a => .ldDA
  | .ldRR .e .b => .ldEB
  | .ldRR .e .c => .ldEC
  | .ldRR .e .d => .ldED
  | .ldRR .e .e => .ldEE
  | .ldRR .e .h => .ldEH
  | .ldRR .e .l => .ldEL
  | .ldRR .e .a => .ldEA
  | .ldRR .h .b => .ldHB
  | .ldRR .h .c => .ldHC
  | .ldRR .h .d => .ldHD
  | .ldRR .h .e => .ldHE
  | .ldRR .h .h => .ldHH
  | .ldRR .h .l => .ldHL
  | .ldRR .h .a => .ldHA
  | .ldRR .l .b => .ldLB
  | .ldRR .l .c => .ldLC
  | .ldRR .l .d => .ldLD
  | .ldRR .l .e => .ldLE
  | .ldRR .l .h => .ldLH
  | .ldRR .l .l => .ldLL
  | .ldRR .l .a => .ldLA
  | .ldRR .a .b => .ldAB
  | .ldRR .a .c => .ldAC
  | .ldRR .a .d => .ldAD
  | .ldRR .a .e => .ldAE
  | .ldRR .a .h => .ldAH
  | .ldRR .a .l => .ldAL
  | .ldRR .a .a => .ldAA
  | .ldRN8 .b n => .ldBN8 n
  | .ldRN8 .c n => .ldCN8 n
  | .ldRN8 .d n => .ldDN8 n
  | .ldRN8 .e n => .ldEN8 n
  | .ldRN8 .h n => .ldHN8 n
  | .ldRN8 .l n => .ldLN8 n
  | .ldRN8 .a n => .ldAN8 n
  | .ldRIndHl .b => .ldBIndHl
  | .ldRIndHl .c => .ldCIndHl
  | .ldRIndHl .d => .ldDIndHl
  | .ldRIndHl .e => .ldEIndHl
  | .ldRIndHl .h => .ldHIndHl
  | .ldRIndHl .l => .ldLIndHl
  | .ldRIndHl .a => .ldAIndHl
  | .ldIndHlR .b => .ldIndHlB
  | .ldIndHlR .c => .ldIndHlC
  | .ldIndHlR .d => .ldIndHlD
  | .ldIndHlR .e => .ldIndHlE
  | .ldIndHlR .h => .ldIndHlH
  | .ldIndHlR .l => .ldIndHlL
  | .ldIndHlR .a => .ldIndHlA
  | .ldIndHlN8 n => .ldIndHlN8 n
  | .ldAIndBc => .ldAIndBc
  | .ldAIndDe => .ldAIndDe
  | .ldIndBcA => .ldIndBcA
  | .ldIndDeA => .ldIndDeA
  | .ldAIndN16 w => .ldAIndN16 w
  | .ldIndN16A w => .ldIndN16A w
  | .ldhAIndC => .ldhAIndC
  | .ldhIndCA => .ldhIndCA
  | .ldhAIndN8 n => .ldhAIndN8 n
  | .ldhIndN8A n => .ldhIndN8A n
  | .ldAHli => .ldAHli
  | .ldAHld => .ldAHld
  | .ldHliA => .ldHliA
  | .ldHldA => .ldHldA
  | .ldRpN16 .bc w => .ldBcN16 w
  | .ldRpN16 .de w => .ldDeN16 w
  | .ldRpN16 .hl w => .ldHlN16 w
  | .ldRpN16 .sp w => .ldSpN16 w
  | .ldIndN16Sp w => .ldIndN16Sp w
  | .ldSpHl => .ldSpHl
  | .ldHlSpE8 e => .ldHlSpE8 e
  | .push .bc => .pushBc
  | .push .de => .pushDe
  | .push .hl => .pushHl
  | .push .af => .pushAf
  | .pop .bc => .popBc
  | .pop .de => .popDe
  | .pop .hl => .popHl
  | .pop .af => .popAf
  | .aluR .add .b => .addAB
  | .aluR .add .c => .addAC
  | .aluR .add .d => .addAD
  | .aluR .add .e => .addAE
  | .aluR .add .h => .addAH
  | .aluR .add .l => .addAL
  | .aluR .add .a => .addAA
  | .aluR .adc .b => .adcAB
  | .aluR .adc .c => .adcAC
  | .aluR .adc .d => .adcAD
  | .aluR .adc .e => .adcAE
  | .aluR .adc .h => .adcAH
  | .aluR .adc .l => .adcAL
  | .aluR .adc .a => .adcAA
  | .aluR .sub .b => .subAB
  | .aluR .sub .c => .subAC
  | .aluR .sub .d => .subAD
  | .aluR .sub .e => .subAE
  | .aluR .sub .h => .subAH
  | .aluR .sub .l => .subAL
  | .aluR .sub .a => .subAA
  | .aluR .sbc .b => .sbcAB
  | .aluR .sbc .c => .sbcAC
  | .aluR .sbc .d => .sbcAD
  | .aluR .sbc .e => .sbcAE
  | .aluR .sbc .h => .sbcAH
  | .aluR .sbc .l => .sbcAL
  | .aluR .sbc .a => .sbcAA
  | .aluR .and .b => .andAB
  | .aluR .and .c => .andAC
  | .aluR .and .d => .andAD
  | .aluR .and .e => .andAE
  | .aluR .and .h => .andAH
  | .aluR .and .l => .andAL
  | .aluR .and .a => .andAA
  | .aluR .xor .b => .xorAB
  | .aluR .xor .c => .xorAC
  | .aluR .xor .d => .xorAD
  | .aluR .xor .e => .xorAE
  | .aluR .xor .h => .xorAH
  | .aluR .xor .l => .xorAL
  | .aluR .xor .a => .xorAA
  | .aluR .or .b => .orAB
  | .aluR .or .c => .orAC
  | .aluR .or .d => .orAD
  | .aluR .or .e => .orAE
  | .aluR .or .h => .orAH
  | .aluR .or .l => .orAL
  | .aluR .or .a => .orAA
  | .aluR .cp .b => .cpAB
  | .aluR .cp .c => .cpAC
  | .aluR .cp .d => .cpAD
  | .aluR .cp .e => .cpAE
  | .aluR .cp .h => .cpAH
  | .aluR .cp .l => .cpAL
  | .aluR .cp .a => .cpAA
  | .aluIndHl .add => .addAIndHl
  | .aluIndHl .adc => .adcAIndHl
  | .aluIndHl .sub => .subAIndHl
  | .aluIndHl .sbc => .sbcAIndHl
  | .aluIndHl .and => .andAIndHl
  | .aluIndHl .xor => .xorAIndHl
  | .aluIndHl .or => .orAIndHl
  | .aluIndHl .cp => .cpAIndHl
  | .aluN8 .add n => .addAN8 n
  | .aluN8 .adc n => .adcAN8 n
  | .aluN8 .sub n => .subAN8 n
  | .aluN8 .sbc n => .sbcAN8 n
  | .aluN8 .and n => .andAN8 n
  | .aluN8 .xor n => .xorAN8 n
  | .aluN8 .or n => .orAN8 n
  | .aluN8 .cp n => .cpAN8 n
  | .incR .b => .incB
  | .incR .c => .incC
  | .incR .d => .incD
  | .incR .e => .incE
  | .incR .h => .incH
  | .incR .l => .incL
  | .incR .a => .incA
  | .incIndHl => .incIndHl
  | .decR .b => .decB
  | .decR .c => .decC
  | .decR .d => .decD
  | .decR .e => .decE
  | .decR .h => .decH
  | .decR .l => .decL
  | .decR .a => .decA
  | .decIndHl => .decIndHl
  | .daa => .daa
  | .cpl => .cpl
  | .scf => .scf
  | .ccf => .ccf
  | .incRp .bc => .incBc
  | .incRp .de => .incDe
  | .incRp .hl => .incHl
  | .incRp .sp => .incSp
  | .decRp .bc => .decBc
  | .decRp .de => .decDe
  | .decRp .hl => .decHl
  | .decRp .sp => .decSp
  | .addHlRp .bc => .addHlBc
  | .addHlRp .de => .addHlDe
  | .addHlRp .hl => .addHlHl
  | .addHlRp .sp => .addHlSp
  | .addSpE8 e => .addSpE8 e
  | .rlca => .rlca
  | .rrca => .rrca
  | .rla => .rla
  | .rra => .rra
  | .rotR .rlc .b => .rlcB
  | .rotR .rlc .c => .rlcC
  | .rotR .rlc .d => .rlcD
  | .rotR .rlc .e => .rlcE
  | .rotR .rlc .h => .rlcH
  | .rotR .rlc .l => .rlcL
  | .rotR .rlc .a => .rlcA
  | .rotR .rrc .b => .rrcB
  | .rotR .rrc .c => .rrcC
  | .rotR .rrc .d => .rrcD
  | .rotR .rrc .e => .rrcE
  | .rotR .rrc .h => .rrcH
  | .rotR .rrc .l => .rrcL
  | .rotR .rrc .a => .rrcA
  | .rotR .rl .b => .rlB
  | .rotR .rl .c => .rlC
  | .rotR .rl .d => .rlD
  | .rotR .rl .e => .rlE
  | .rotR .rl .h => .rlH
  | .rotR .rl .l => .rlL
  | .rotR .rl .a => .rlA
  | .rotR .rr .b => .rrB
  | .rotR .rr .c => .rrC
  | .rotR .rr .d => .rrD
  | .rotR .rr .e => .rrE
  | .rotR .rr .h => .rrH
  | .rotR .rr .l => .rrL
  | .rotR .rr .a => .rrA
  | .rotR .sla .b => .slaB
  | .rotR .sla .c => .slaC
  | .rotR .sla .d => .slaD
  | .rotR .sla .e => .slaE
  | .rotR .sla .h => .slaH
  | .rotR .sla .l => .slaL
  | .rotR .sla .a => .slaA
  | .rotR .sra .b => .sraB
  | .rotR .sra .c => .sraC
  | .rotR .sra .d => .sraD
  | .rotR .sra .e => .sraE
  | .rotR .sra .h => .sraH
  | .rotR .sra .l => .sraL
  | .rotR .sra .a => .sraA
  | .rotR .swap .b => .swapB
  | .rotR .swap .c => .swapC
  | .rotR .swap .d => .swapD
  | .rotR .swap .e => .swapE
  | .rotR .swap .h => .swapH
  | .rotR .swap .l => .swapL
  | .rotR .swap .a => .swapA
  | .rotR .srl .b => .srlB
  | .rotR .srl .c => .srlC
  | .rotR .srl .d => .srlD
  | .rotR .srl .e => .srlE
  | .rotR .srl .h => .srlH
  | .rotR .srl .l => .srlL
  | .rotR .srl .a => .srlA
  | .rotIndHl .rlc => .rlcIndHl
  | .rotIndHl .rrc => .rrcIndHl
  | .rotIndHl .rl => .rlIndHl
  | .rotIndHl .rr => .rrIndHl
  | .rotIndHl .sla => .slaIndHl
  | .rotIndHl .sra => .sraIndHl
  | .rotIndHl .swap => .swapIndHl
  | .rotIndHl .srl => .srlIndHl
  | .bitR b .b => .bitB b
  | .bitR b .c => .bitC b
  | .bitR b .d => .bitD b
  | .bitR b .e => .bitE b
  | .bitR b .h => .bitH b
  | .bitR b .l => .bitL b
  | .bitR b .a => .bitA b
  | .bitIndHl b => .bitIndHl b
  | .resR b .b => .resB b
  | .resR b .c => .resC b
  | .resR b .d => .resD b
  | .resR b .e => .resE b
  | .resR b .h => .resH b
  | .resR b .l => .resL b
  | .resR b .a => .resA b
  | .resIndHl b => .resIndHl b
  | .setR b .b => .setB b
  | .setR b .c => .setC b
  | .setR b .d => .setD b
  | .setR b .e => .setE b
  | .setR b .h => .setH b
  | .setR b .l => .setL b
  | .setR b .a => .setA b
  | .setIndHl b => .setIndHl b
  | .jpN16 w => .jpN16 w
  | .jpHl => .jpHl
  | .jpCc .nz w => .jpNzN16 w
  | .jpCc .z w => .jpZN16 w
  | .jpCc .nc w => .jpNcN16 w
  | .jpCc .c w => .jpCN16 w
  | .jrE8 e => .jrE8 e
  | .jrCc .nz e => .jrNzE8 e
  | .jrCc .z e => .jrZE8 e
  | .jrCc .nc e => .jrNcE8 e
  | .jrCc .c e => .jrCE8 e
  | .callN16 w => .callN16 w
  | .callCc .nz w => .callNzN16 w
  | .callCc .z w => .callZN16 w
  | .callCc .nc w => .callNcN16 w
  | .callCc .c w => .callCN16 w
  | .ret => .ret
  | .retCc .nz => .retNz
  | .retCc .z => .retZ
  | .retCc .nc => .retNc
  | .retCc .c => .retC
  | .reti => .reti
  | .rst 0 => .rst00
  | .rst 1 => .rst08
  | .rst 2 => .rst10
  | .rst 3 => .rst18
  | .rst 4 => .rst20
  | .rst 5 => .rst28
  | .rst 6 => .rst30
  | .rst 7 => .rst38
  | .nop => .nop
  | .halt => .halt
  | .stop => .stop
  | .di => .di
  | .ei => .ei

/-- The rule and fields of a row: the inverse of `Form.instr`. -/
def Instr.form : Instr → Form
  | .ldBcN16 w => .ldRpN16 .bc w
  | .ldBN8 n => .ldRN8 .b n
  | .ldIndN16Sp w => .ldIndN16Sp w
  | .ldCN8 n => .ldRN8 .c n
  | .ldDeN16 w => .ldRpN16 .de w
  | .ldDN8 n => .ldRN8 .d n
  | .jrE8 e => .jrE8 e
  | .ldEN8 n => .ldRN8 .e n
  | .jrNzE8 e => .jrCc .nz e
  | .ldHlN16 w => .ldRpN16 .hl w
  | .ldHN8 n => .ldRN8 .h n
  | .jrZE8 e => .jrCc .z e
  | .ldLN8 n => .ldRN8 .l n
  | .jrNcE8 e => .jrCc .nc e
  | .ldSpN16 w => .ldRpN16 .sp w
  | .ldIndHlN8 n => .ldIndHlN8 n
  | .jrCE8 e => .jrCc .c e
  | .ldAN8 n => .ldRN8 .a n
  | .jpNzN16 w => .jpCc .nz w
  | .jpN16 w => .jpN16 w
  | .callNzN16 w => .callCc .nz w
  | .addAN8 n => .aluN8 .add n
  | .jpZN16 w => .jpCc .z w
  | .callZN16 w => .callCc .z w
  | .callN16 w => .callN16 w
  | .adcAN8 n => .aluN8 .adc n
  | .jpNcN16 w => .jpCc .nc w
  | .callNcN16 w => .callCc .nc w
  | .subAN8 n => .aluN8 .sub n
  | .jpCN16 w => .jpCc .c w
  | .callCN16 w => .callCc .c w
  | .sbcAN8 n => .aluN8 .sbc n
  | .ldhIndN8A n => .ldhIndN8A n
  | .andAN8 n => .aluN8 .and n
  | .addSpE8 e => .addSpE8 e
  | .ldIndN16A w => .ldIndN16A w
  | .xorAN8 n => .aluN8 .xor n
  | .ldhAIndN8 n => .ldhAIndN8 n
  | .orAN8 n => .aluN8 .or n
  | .ldHlSpE8 e => .ldHlSpE8 e
  | .ldAIndN16 w => .ldAIndN16 w
  | .cpAN8 n => .aluN8 .cp n
  | .bitB b => .bitR b .b
  | .bitC b => .bitR b .c
  | .bitD b => .bitR b .d
  | .bitE b => .bitR b .e
  | .bitH b => .bitR b .h
  | .bitL b => .bitR b .l
  | .bitIndHl b => .bitIndHl b
  | .bitA b => .bitR b .a
  | .resB b => .resR b .b
  | .resC b => .resR b .c
  | .resD b => .resR b .d
  | .resE b => .resR b .e
  | .resH b => .resR b .h
  | .resL b => .resR b .l
  | .resIndHl b => .resIndHl b
  | .resA b => .resR b .a
  | .setB b => .setR b .b
  | .setC b => .setR b .c
  | .setD b => .setR b .d
  | .setE b => .setR b .e
  | .setH b => .setR b .h
  | .setL b => .setR b .l
  | .setIndHl b => .setIndHl b
  | .setA b => .setR b .a
  | .nop => .nop
  | .ldIndBcA => .ldIndBcA
  | .incBc => .incRp .bc
  | .incB => .incR .b
  | .decB => .decR .b
  | .rlca => .rlca
  | .addHlBc => .addHlRp .bc
  | .ldAIndBc => .ldAIndBc
  | .decBc => .decRp .bc
  | .incC => .incR .c
  | .decC => .decR .c
  | .rrca => .rrca
  | .stop => .stop
  | .ldIndDeA => .ldIndDeA
  | .incDe => .incRp .de
  | .incD => .incR .d
  | .decD => .decR .d
  | .rla => .rla
  | .addHlDe => .addHlRp .de
  | .ldAIndDe => .ldAIndDe
  | .decDe => .decRp .de
  | .incE => .incR .e
  | .decE => .decR .e
  | .rra => .rra
  | .ldHliA => .ldHliA
  | .incHl => .incRp .hl
  | .incH => .incR .h
  | .decH => .decR .h
  | .daa => .daa
  | .addHlHl => .addHlRp .hl
  | .ldAHli => .ldAHli
  | .decHl => .decRp .hl
  | .incL => .incR .l
  | .decL => .decR .l
  | .cpl => .cpl
  | .ldHldA => .ldHldA
  | .incSp => .incRp .sp
  | .incIndHl => .incIndHl
  | .decIndHl => .decIndHl
  | .scf => .scf
  | .addHlSp => .addHlRp .sp
  | .ldAHld => .ldAHld
  | .decSp => .decRp .sp
  | .incA => .incR .a
  | .decA => .decR .a
  | .ccf => .ccf
  | .ldBB => .ldRR .b .b
  | .ldBC => .ldRR .b .c
  | .ldBD => .ldRR .b .d
  | .ldBE => .ldRR .b .e
  | .ldBH => .ldRR .b .h
  | .ldBL => .ldRR .b .l
  | .ldBIndHl => .ldRIndHl .b
  | .ldBA => .ldRR .b .a
  | .ldCB => .ldRR .c .b
  | .ldCC => .ldRR .c .c
  | .ldCD => .ldRR .c .d
  | .ldCE => .ldRR .c .e
  | .ldCH => .ldRR .c .h
  | .ldCL => .ldRR .c .l
  | .ldCIndHl => .ldRIndHl .c
  | .ldCA => .ldRR .c .a
  | .ldDB => .ldRR .d .b
  | .ldDC => .ldRR .d .c
  | .ldDD => .ldRR .d .d
  | .ldDE => .ldRR .d .e
  | .ldDH => .ldRR .d .h
  | .ldDL => .ldRR .d .l
  | .ldDIndHl => .ldRIndHl .d
  | .ldDA => .ldRR .d .a
  | .ldEB => .ldRR .e .b
  | .ldEC => .ldRR .e .c
  | .ldED => .ldRR .e .d
  | .ldEE => .ldRR .e .e
  | .ldEH => .ldRR .e .h
  | .ldEL => .ldRR .e .l
  | .ldEIndHl => .ldRIndHl .e
  | .ldEA => .ldRR .e .a
  | .ldHB => .ldRR .h .b
  | .ldHC => .ldRR .h .c
  | .ldHD => .ldRR .h .d
  | .ldHE => .ldRR .h .e
  | .ldHH => .ldRR .h .h
  | .ldHL => .ldRR .h .l
  | .ldHIndHl => .ldRIndHl .h
  | .ldHA => .ldRR .h .a
  | .ldLB => .ldRR .l .b
  | .ldLC => .ldRR .l .c
  | .ldLD => .ldRR .l .d
  | .ldLE => .ldRR .l .e
  | .ldLH => .ldRR .l .h
  | .ldLL => .ldRR .l .l
  | .ldLIndHl => .ldRIndHl .l
  | .ldLA => .ldRR .l .a
  | .ldIndHlB => .ldIndHlR .b
  | .ldIndHlC => .ldIndHlR .c
  | .ldIndHlD => .ldIndHlR .d
  | .ldIndHlE => .ldIndHlR .e
  | .ldIndHlH => .ldIndHlR .h
  | .ldIndHlL => .ldIndHlR .l
  | .halt => .halt
  | .ldIndHlA => .ldIndHlR .a
  | .ldAB => .ldRR .a .b
  | .ldAC => .ldRR .a .c
  | .ldAD => .ldRR .a .d
  | .ldAE => .ldRR .a .e
  | .ldAH => .ldRR .a .h
  | .ldAL => .ldRR .a .l
  | .ldAIndHl => .ldRIndHl .a
  | .ldAA => .ldRR .a .a
  | .addAB => .aluR .add .b
  | .addAC => .aluR .add .c
  | .addAD => .aluR .add .d
  | .addAE => .aluR .add .e
  | .addAH => .aluR .add .h
  | .addAL => .aluR .add .l
  | .addAIndHl => .aluIndHl .add
  | .addAA => .aluR .add .a
  | .adcAB => .aluR .adc .b
  | .adcAC => .aluR .adc .c
  | .adcAD => .aluR .adc .d
  | .adcAE => .aluR .adc .e
  | .adcAH => .aluR .adc .h
  | .adcAL => .aluR .adc .l
  | .adcAIndHl => .aluIndHl .adc
  | .adcAA => .aluR .adc .a
  | .subAB => .aluR .sub .b
  | .subAC => .aluR .sub .c
  | .subAD => .aluR .sub .d
  | .subAE => .aluR .sub .e
  | .subAH => .aluR .sub .h
  | .subAL => .aluR .sub .l
  | .subAIndHl => .aluIndHl .sub
  | .subAA => .aluR .sub .a
  | .sbcAB => .aluR .sbc .b
  | .sbcAC => .aluR .sbc .c
  | .sbcAD => .aluR .sbc .d
  | .sbcAE => .aluR .sbc .e
  | .sbcAH => .aluR .sbc .h
  | .sbcAL => .aluR .sbc .l
  | .sbcAIndHl => .aluIndHl .sbc
  | .sbcAA => .aluR .sbc .a
  | .andAB => .aluR .and .b
  | .andAC => .aluR .and .c
  | .andAD => .aluR .and .d
  | .andAE => .aluR .and .e
  | .andAH => .aluR .and .h
  | .andAL => .aluR .and .l
  | .andAIndHl => .aluIndHl .and
  | .andAA => .aluR .and .a
  | .xorAB => .aluR .xor .b
  | .xorAC => .aluR .xor .c
  | .xorAD => .aluR .xor .d
  | .xorAE => .aluR .xor .e
  | .xorAH => .aluR .xor .h
  | .xorAL => .aluR .xor .l
  | .xorAIndHl => .aluIndHl .xor
  | .xorAA => .aluR .xor .a
  | .orAB => .aluR .or .b
  | .orAC => .aluR .or .c
  | .orAD => .aluR .or .d
  | .orAE => .aluR .or .e
  | .orAH => .aluR .or .h
  | .orAL => .aluR .or .l
  | .orAIndHl => .aluIndHl .or
  | .orAA => .aluR .or .a
  | .cpAB => .aluR .cp .b
  | .cpAC => .aluR .cp .c
  | .cpAD => .aluR .cp .d
  | .cpAE => .aluR .cp .e
  | .cpAH => .aluR .cp .h
  | .cpAL => .aluR .cp .l
  | .cpAIndHl => .aluIndHl .cp
  | .cpAA => .aluR .cp .a
  | .retNz => .retCc .nz
  | .popBc => .pop .bc
  | .pushBc => .push .bc
  | .rst00 => .rst 0
  | .retZ => .retCc .z
  | .ret => .ret
  | .rst08 => .rst 1
  | .retNc => .retCc .nc
  | .popDe => .pop .de
  | .pushDe => .push .de
  | .rst10 => .rst 2
  | .retC => .retCc .c
  | .reti => .reti
  | .rst18 => .rst 3
  | .popHl => .pop .hl
  | .ldhIndCA => .ldhIndCA
  | .pushHl => .push .hl
  | .rst20 => .rst 4
  | .jpHl => .jpHl
  | .rst28 => .rst 5
  | .popAf => .pop .af
  | .ldhAIndC => .ldhAIndC
  | .di => .di
  | .pushAf => .push .af
  | .rst30 => .rst 6
  | .ldSpHl => .ldSpHl
  | .ei => .ei
  | .rst38 => .rst 7
  | .rlcB => .rotR .rlc .b
  | .rlcC => .rotR .rlc .c
  | .rlcD => .rotR .rlc .d
  | .rlcE => .rotR .rlc .e
  | .rlcH => .rotR .rlc .h
  | .rlcL => .rotR .rlc .l
  | .rlcIndHl => .rotIndHl .rlc
  | .rlcA => .rotR .rlc .a
  | .rrcB => .rotR .rrc .b
  | .rrcC => .rotR .rrc .c
  | .rrcD => .rotR .rrc .d
  | .rrcE => .rotR .rrc .e
  | .rrcH => .rotR .rrc .h
  | .rrcL => .rotR .rrc .l
  | .rrcIndHl => .rotIndHl .rrc
  | .rrcA => .rotR .rrc .a
  | .rlB => .rotR .rl .b
  | .rlC => .rotR .rl .c
  | .rlD => .rotR .rl .d
  | .rlE => .rotR .rl .e
  | .rlH => .rotR .rl .h
  | .rlL => .rotR .rl .l
  | .rlIndHl => .rotIndHl .rl
  | .rlA => .rotR .rl .a
  | .rrB => .rotR .rr .b
  | .rrC => .rotR .rr .c
  | .rrD => .rotR .rr .d
  | .rrE => .rotR .rr .e
  | .rrH => .rotR .rr .h
  | .rrL => .rotR .rr .l
  | .rrIndHl => .rotIndHl .rr
  | .rrA => .rotR .rr .a
  | .slaB => .rotR .sla .b
  | .slaC => .rotR .sla .c
  | .slaD => .rotR .sla .d
  | .slaE => .rotR .sla .e
  | .slaH => .rotR .sla .h
  | .slaL => .rotR .sla .l
  | .slaIndHl => .rotIndHl .sla
  | .slaA => .rotR .sla .a
  | .sraB => .rotR .sra .b
  | .sraC => .rotR .sra .c
  | .sraD => .rotR .sra .d
  | .sraE => .rotR .sra .e
  | .sraH => .rotR .sra .h
  | .sraL => .rotR .sra .l
  | .sraIndHl => .rotIndHl .sra
  | .sraA => .rotR .sra .a
  | .swapB => .rotR .swap .b
  | .swapC => .rotR .swap .c
  | .swapD => .rotR .swap .d
  | .swapE => .rotR .swap .e
  | .swapH => .rotR .swap .h
  | .swapL => .rotR .swap .l
  | .swapIndHl => .rotIndHl .swap
  | .swapA => .rotR .swap .a
  | .srlB => .rotR .srl .b
  | .srlC => .rotR .srl .c
  | .srlD => .rotR .srl .d
  | .srlE => .rotR .srl .e
  | .srlH => .rotR .srl .h
  | .srlL => .rotR .srl .l
  | .srlIndHl => .rotIndHl .srl
  | .srlA => .rotR .srl .a

/-! ### Field tables -/

/-- The 8-bit operand field `r` (30_encoding R59); value 6 is the memory operand (HL), `none` here. -/
def reg8Of : Nat → Option Reg8
  | 0 => some .b
  | 1 => some .c
  | 2 => some .d
  | 3 => some .e
  | 4 => some .h
  | 5 => some .l
  | 6 => none
  | _ => some .a

/-- The field `rp` (30_encoding R60). -/
def rpOf : Nat → Rp
  | 0 => .bc
  | 1 => .de
  | 2 => .hl
  | _ => .sp

/-- The field `rp2` (30_encoding R61). -/
def rp2Of : Nat → Rp2
  | 0 => .bc
  | 1 => .de
  | 2 => .hl
  | _ => .af

/-- The field `cc`, `y[1:0]` (30_encoding R62). -/
def ccOf (y : Nat) : Cc :=
  match y % 4 with
  | 0 => .nz
  | 1 => .z
  | 2 => .nc
  | _ => .c

/-- The field `alu` (30_encoding R63). -/
def aluOf : Nat → AluOp
  | 0 => .add
  | 1 => .adc
  | 2 => .sub
  | 3 => .sbc
  | 4 => .and
  | 5 => .xor
  | 6 => .or
  | _ => .cp

/-- The field `rot` (30_encoding R64). -/
def rotOf : Nat → RotOp
  | 0 => .rlc
  | 1 => .rrc
  | 2 => .rl
  | 3 => .rr
  | 4 => .sla
  | 5 => .sra
  | 6 => .swap
  | _ => .srl

/-! ### The dispatch tables (30_encoding R71 to R74, R89) -/

/-- A dispatch table entry: the explicit `Unmapped` sentinel, the escape, or an instruction with its
format: no immediate, an immediate byte, an immediate word, or STOP's unread second byte. -/
inductive Entry where
  | unmapped
  | escape
  | f1 (f : Form)
  | f2 (mk : Byte → Form)
  | f3 (mk : Word → Form)
  | fstop (f : Form)

/-- The escape byte (30_encoding R69). -/
def escapeByte : Byte := 0xCB

/-- Primary bytes with x = 0 (30_encoding R71). -/
def primaryX0 (y z p q : Nat) : Entry :=
  match z with
  | 0 =>
    match y with
    | 0 => .f1 .nop
    | 1 => .f3 .ldIndN16Sp
    | 2 => .fstop .stop
    | 3 => .f2 .jrE8
    | _ => .f2 (.jrCc (ccOf y))
  | 1 =>
    match q with
    | 0 => .f3 (.ldRpN16 (rpOf p))
    | _ => .f1 (.addHlRp (rpOf p))
  | 2 =>
    match q, p with
    | 0, 0 => .f1 .ldIndBcA
    | 0, 1 => .f1 .ldIndDeA
    | 0, 2 => .f1 .ldHliA
    | 0, _ => .f1 .ldHldA
    | _, 0 => .f1 .ldAIndBc
    | _, 1 => .f1 .ldAIndDe
    | _, 2 => .f1 .ldAHli
    | _, _ => .f1 .ldAHld
  | 3 =>
    match q with
    | 0 => .f1 (.incRp (rpOf p))
    | _ => .f1 (.decRp (rpOf p))
  | 4 =>
    match reg8Of y with
    | some r => .f1 (.incR r)
    | none => .f1 .incIndHl
  | 5 =>
    match reg8Of y with
    | some r => .f1 (.decR r)
    | none => .f1 .decIndHl
  | 6 =>
    match reg8Of y with
    | some r => .f2 (.ldRN8 r)
    | none => .f2 .ldIndHlN8
  | _ =>
    match y with
    | 0 => .f1 .rlca
    | 1 => .f1 .rrca
    | 2 => .f1 .rla
    | 3 => .f1 .rra
    | 4 => .f1 .daa
    | 5 => .f1 .cpl
    | 6 => .f1 .scf
    | _ => .f1 .ccf

/-- Primary bytes with x = 1: the loads, and HALT where LD (HL),(HL) would be (30_encoding R71). -/
def primaryX1 (y z : Nat) : Entry :=
  match reg8Of y, reg8Of z with
  | some dst, some src => .f1 (.ldRR dst src)
  | some dst, none => .f1 (.ldRIndHl dst)
  | none, some src => .f1 (.ldIndHlR src)
  | none, none => .f1 .halt

/-- Primary bytes with x = 2: `alu[y] A,r[z]` (30_encoding R71). -/
def primaryX2 (y z : Nat) : Entry :=
  match reg8Of z with
  | some r => .f1 (.aluR (aluOf y) r)
  | none => .f1 (.aluIndHl (aluOf y))

/-- The RST operand number y, whose target is `y * 8` (30_encoding R65). -/
def rstOf (y : Nat) : Fin 8 := Fin.ofNat 8 y

/-- Primary bytes with x = 3 (30_encoding R71). -/
def primaryX3 (y z p q : Nat) : Entry :=
  match z with
  | 0 =>
    match y with
    | 4 => .f2 .ldhIndN8A
    | 5 => .f2 .addSpE8
    | 6 => .f2 .ldhAIndN8
    | 7 => .f2 .ldHlSpE8
    | _ => .f1 (.retCc (ccOf y))
  | 1 =>
    match q, p with
    | 0, _ => .f1 (.pop (rp2Of p))
    | _, 0 => .f1 .ret
    | _, 1 => .f1 .reti
    | _, 2 => .f1 .jpHl
    | _, _ => .f1 .ldSpHl
  | 2 =>
    match y with
    | 4 => .f1 .ldhIndCA
    | 5 => .f3 .ldIndN16A
    | 6 => .f1 .ldhAIndC
    | 7 => .f3 .ldAIndN16
    | _ => .f3 (.jpCc (ccOf y))
  | 3 =>
    match y with
    | 0 => .f3 .jpN16
    | 1 => .escape
    | 6 => .f1 .di
    | 7 => .f1 .ei
    | _ => .unmapped
  | 4 =>
    match y with
    | 0 => .f3 (.callCc .nz)
    | 1 => .f3 (.callCc .z)
    | 2 => .f3 (.callCc .nc)
    | 3 => .f3 (.callCc .c)
    | _ => .unmapped
  | 5 =>
    match q, p with
    | 0, _ => .f1 (.push (rp2Of p))
    | _, 0 => .f3 .callN16
    | _, _ => .unmapped
  | 6 => .f2 (.aluN8 (aluOf y))
  | _ => .f1 (.rst (rstOf y))

/-- `PRIMARY[op]` (30_encoding R71, R89). -/
def primaryEntry (op : Byte) : Entry :=
  match fieldX op with
  | 0 => primaryX0 (fieldY op) (fieldZ op) (fieldP op) (fieldQ op)
  | 1 => primaryX1 (fieldY op) (fieldZ op)
  | 2 => primaryX2 (fieldY op) (fieldZ op)
  | _ => primaryX3 (fieldY op) (fieldZ op) (fieldP op) (fieldQ op)

/-- `ESCAPE[op2]` (30_encoding R73): every one of the 256 bytes is mapped. -/
def escapedForm (op2 : Byte) : Form :=
  match fieldX op2, reg8Of (fieldZ op2) with
  | 0, some r => .rotR (rotOf (fieldY op2)) r
  | 0, none => .rotIndHl (rotOf (fieldY op2))
  | 1, some r => .bitR (fieldY op2) r
  | 1, none => .bitIndHl (fieldY op2)
  | 2, some r => .resR (fieldY op2) r
  | 2, none => .resIndHl (fieldY op2)
  | _, some r => .setR (fieldY op2) r
  | _, none => .setIndHl (fieldY op2)

/-- The length an entry gives its first byte; an unmapped byte has none (30_encoding R58, R77). -/
def Entry.length : Entry → Option Nat
  | .unmapped => none
  | .escape => some 2
  | .f1 _ => some 1
  | .f2 _ => some 2
  | .f3 _ => some 3
  | .fstop _ => some 2

/-- An instruction's length from its first byte alone (30_encoding R58). -/
def lengthOf (op : Byte) : Option Nat := (primaryEntry op).length

/-- The key has a table entry: every escape key, and every primary byte but the eleven unmapped ones
and the bare escape (30_encoding R70, R74). -/
def OpcodeKey.mapped : OpcodeKey → Bool
  | .escape _ => true
  | .primary op =>
    match primaryEntry op with
    | .unmapped => false
    | .escape => false
    | .f1 _ => true
    | .f2 _ => true
    | .f3 _ => true
    | .fstop _ => true

/-- Membership in P8 `IMPLEMENTED`: a mapped key, never HALT or STOP, that this configuration does not
leave out (00_scope R7; 30_encoding R75; 46_misc R201, R202). -/
def Config.implements (c : Config) (k : OpcodeKey) : Bool :=
  k.mapped && decide (k ≠ .primary 0x76) && decide (k ≠ .primary 0x10) && !(c.excluded.contains k)

/-! ### The decoder -/

/-- Why bytes are no instruction: the first byte has no table entry (30_encoding R74), or the list ends
before the instruction does. -/
inductive DecodeError where
  | unmapped (op : Byte)
  | truncated
  deriving DecidableEq, Repr

/-- An instruction and the bytes after it, or the reason there is none. -/
abbrev Decoded := Except DecodeError (Instr × List Byte)

/-- The bytes after STOP's opcode: the second byte is not read and may be anything (46_misc R202). -/
def afterStop : List Byte → List Byte
  | [] => []
  | _ :: rest => rest

/-- Complete an entry of the primary table with the bytes that follow the opcode. -/
def Entry.complete (op : Byte) (rest : List Byte) : Entry → Decoded
  | .unmapped => .error (.unmapped op)
  | .f1 f => .ok (f.instr, rest)
  | .fstop f => .ok (f.instr, afterStop rest)
  | .escape =>
    match rest with
    | op2 :: rest => .ok ((escapedForm op2).instr, rest)
    | [] => .error .truncated
  | .f2 mk =>
    match rest with
    | n :: rest => .ok ((mk n).instr, rest)
    | [] => .error .truncated
  | .f3 mk =>
    match rest with
    | l :: h :: rest => .ok ((mk (cat h l)).instr, rest)
    | [_] => .error .truncated
    | [] => .error .truncated

/-- Decode the instruction at the head of a byte list (30_encoding R56, R67, R69, R77). -/
def decode : List Byte → Decoded
  | [] => .error .truncated
  | op :: rest => (primaryEntry op).complete op rest

/-! ### The encoder -/

/-- An escape-table instruction with a bit number: second byte `base + 8 * b` (30_encoding R65, R73). -/
def encodeBit (base : Byte) (b : Nat) : List Byte := [0xCB, base + BitVec.ofNat 8 (8 * b)]

/-- An instruction with an immediate word, low byte first (30_encoding R56, R67). -/
def encodeWord (op : Byte) (w : Word) : List Byte := [op, lo w, hi w]

/-- The bytes of an instruction, from the match column of spec/opcode_table.json. STOP's second byte is
written 0x00 (DESIGN CHOICE, log entry 9). -/
def encode : Instr → List Byte
  | .ldBcN16 w => encodeWord 0x01 w
  | .ldBN8 n => [0x06, n]
  | .ldIndN16Sp w => encodeWord 0x08 w
  | .ldCN8 n => [0x0E, n]
  | .ldDeN16 w => encodeWord 0x11 w
  | .ldDN8 n => [0x16, n]
  | .jrE8 e => [0x18, e]
  | .ldEN8 n => [0x1E, n]
  | .jrNzE8 e => [0x20, e]
  | .ldHlN16 w => encodeWord 0x21 w
  | .ldHN8 n => [0x26, n]
  | .jrZE8 e => [0x28, e]
  | .ldLN8 n => [0x2E, n]
  | .jrNcE8 e => [0x30, e]
  | .ldSpN16 w => encodeWord 0x31 w
  | .ldIndHlN8 n => [0x36, n]
  | .jrCE8 e => [0x38, e]
  | .ldAN8 n => [0x3E, n]
  | .jpNzN16 w => encodeWord 0xC2 w
  | .jpN16 w => encodeWord 0xC3 w
  | .callNzN16 w => encodeWord 0xC4 w
  | .addAN8 n => [0xC6, n]
  | .jpZN16 w => encodeWord 0xCA w
  | .callZN16 w => encodeWord 0xCC w
  | .callN16 w => encodeWord 0xCD w
  | .adcAN8 n => [0xCE, n]
  | .jpNcN16 w => encodeWord 0xD2 w
  | .callNcN16 w => encodeWord 0xD4 w
  | .subAN8 n => [0xD6, n]
  | .jpCN16 w => encodeWord 0xDA w
  | .callCN16 w => encodeWord 0xDC w
  | .sbcAN8 n => [0xDE, n]
  | .ldhIndN8A n => [0xE0, n]
  | .andAN8 n => [0xE6, n]
  | .addSpE8 e => [0xE8, e]
  | .ldIndN16A w => encodeWord 0xEA w
  | .xorAN8 n => [0xEE, n]
  | .ldhAIndN8 n => [0xF0, n]
  | .orAN8 n => [0xF6, n]
  | .ldHlSpE8 e => [0xF8, e]
  | .ldAIndN16 w => encodeWord 0xFA w
  | .cpAN8 n => [0xFE, n]
  | .bitB b => encodeBit 0x40 b
  | .bitC b => encodeBit 0x41 b
  | .bitD b => encodeBit 0x42 b
  | .bitE b => encodeBit 0x43 b
  | .bitH b => encodeBit 0x44 b
  | .bitL b => encodeBit 0x45 b
  | .bitIndHl b => encodeBit 0x46 b
  | .bitA b => encodeBit 0x47 b
  | .resB b => encodeBit 0x80 b
  | .resC b => encodeBit 0x81 b
  | .resD b => encodeBit 0x82 b
  | .resE b => encodeBit 0x83 b
  | .resH b => encodeBit 0x84 b
  | .resL b => encodeBit 0x85 b
  | .resIndHl b => encodeBit 0x86 b
  | .resA b => encodeBit 0x87 b
  | .setB b => encodeBit 0xC0 b
  | .setC b => encodeBit 0xC1 b
  | .setD b => encodeBit 0xC2 b
  | .setE b => encodeBit 0xC3 b
  | .setH b => encodeBit 0xC4 b
  | .setL b => encodeBit 0xC5 b
  | .setIndHl b => encodeBit 0xC6 b
  | .setA b => encodeBit 0xC7 b
  | .nop => [0x00]
  | .ldIndBcA => [0x02]
  | .incBc => [0x03]
  | .incB => [0x04]
  | .decB => [0x05]
  | .rlca => [0x07]
  | .addHlBc => [0x09]
  | .ldAIndBc => [0x0A]
  | .decBc => [0x0B]
  | .incC => [0x0C]
  | .decC => [0x0D]
  | .rrca => [0x0F]
  | .stop => [0x10, 0x00]
  | .ldIndDeA => [0x12]
  | .incDe => [0x13]
  | .incD => [0x14]
  | .decD => [0x15]
  | .rla => [0x17]
  | .addHlDe => [0x19]
  | .ldAIndDe => [0x1A]
  | .decDe => [0x1B]
  | .incE => [0x1C]
  | .decE => [0x1D]
  | .rra => [0x1F]
  | .ldHliA => [0x22]
  | .incHl => [0x23]
  | .incH => [0x24]
  | .decH => [0x25]
  | .daa => [0x27]
  | .addHlHl => [0x29]
  | .ldAHli => [0x2A]
  | .decHl => [0x2B]
  | .incL => [0x2C]
  | .decL => [0x2D]
  | .cpl => [0x2F]
  | .ldHldA => [0x32]
  | .incSp => [0x33]
  | .incIndHl => [0x34]
  | .decIndHl => [0x35]
  | .scf => [0x37]
  | .addHlSp => [0x39]
  | .ldAHld => [0x3A]
  | .decSp => [0x3B]
  | .incA => [0x3C]
  | .decA => [0x3D]
  | .ccf => [0x3F]
  | .ldBB => [0x40]
  | .ldBC => [0x41]
  | .ldBD => [0x42]
  | .ldBE => [0x43]
  | .ldBH => [0x44]
  | .ldBL => [0x45]
  | .ldBIndHl => [0x46]
  | .ldBA => [0x47]
  | .ldCB => [0x48]
  | .ldCC => [0x49]
  | .ldCD => [0x4A]
  | .ldCE => [0x4B]
  | .ldCH => [0x4C]
  | .ldCL => [0x4D]
  | .ldCIndHl => [0x4E]
  | .ldCA => [0x4F]
  | .ldDB => [0x50]
  | .ldDC => [0x51]
  | .ldDD => [0x52]
  | .ldDE => [0x53]
  | .ldDH => [0x54]
  | .ldDL => [0x55]
  | .ldDIndHl => [0x56]
  | .ldDA => [0x57]
  | .ldEB => [0x58]
  | .ldEC => [0x59]
  | .ldED => [0x5A]
  | .ldEE => [0x5B]
  | .ldEH => [0x5C]
  | .ldEL => [0x5D]
  | .ldEIndHl => [0x5E]
  | .ldEA => [0x5F]
  | .ldHB => [0x60]
  | .ldHC => [0x61]
  | .ldHD => [0x62]
  | .ldHE => [0x63]
  | .ldHH => [0x64]
  | .ldHL => [0x65]
  | .ldHIndHl => [0x66]
  | .ldHA => [0x67]
  | .ldLB => [0x68]
  | .ldLC => [0x69]
  | .ldLD => [0x6A]
  | .ldLE => [0x6B]
  | .ldLH => [0x6C]
  | .ldLL => [0x6D]
  | .ldLIndHl => [0x6E]
  | .ldLA => [0x6F]
  | .ldIndHlB => [0x70]
  | .ldIndHlC => [0x71]
  | .ldIndHlD => [0x72]
  | .ldIndHlE => [0x73]
  | .ldIndHlH => [0x74]
  | .ldIndHlL => [0x75]
  | .halt => [0x76]
  | .ldIndHlA => [0x77]
  | .ldAB => [0x78]
  | .ldAC => [0x79]
  | .ldAD => [0x7A]
  | .ldAE => [0x7B]
  | .ldAH => [0x7C]
  | .ldAL => [0x7D]
  | .ldAIndHl => [0x7E]
  | .ldAA => [0x7F]
  | .addAB => [0x80]
  | .addAC => [0x81]
  | .addAD => [0x82]
  | .addAE => [0x83]
  | .addAH => [0x84]
  | .addAL => [0x85]
  | .addAIndHl => [0x86]
  | .addAA => [0x87]
  | .adcAB => [0x88]
  | .adcAC => [0x89]
  | .adcAD => [0x8A]
  | .adcAE => [0x8B]
  | .adcAH => [0x8C]
  | .adcAL => [0x8D]
  | .adcAIndHl => [0x8E]
  | .adcAA => [0x8F]
  | .subAB => [0x90]
  | .subAC => [0x91]
  | .subAD => [0x92]
  | .subAE => [0x93]
  | .subAH => [0x94]
  | .subAL => [0x95]
  | .subAIndHl => [0x96]
  | .subAA => [0x97]
  | .sbcAB => [0x98]
  | .sbcAC => [0x99]
  | .sbcAD => [0x9A]
  | .sbcAE => [0x9B]
  | .sbcAH => [0x9C]
  | .sbcAL => [0x9D]
  | .sbcAIndHl => [0x9E]
  | .sbcAA => [0x9F]
  | .andAB => [0xA0]
  | .andAC => [0xA1]
  | .andAD => [0xA2]
  | .andAE => [0xA3]
  | .andAH => [0xA4]
  | .andAL => [0xA5]
  | .andAIndHl => [0xA6]
  | .andAA => [0xA7]
  | .xorAB => [0xA8]
  | .xorAC => [0xA9]
  | .xorAD => [0xAA]
  | .xorAE => [0xAB]
  | .xorAH => [0xAC]
  | .xorAL => [0xAD]
  | .xorAIndHl => [0xAE]
  | .xorAA => [0xAF]
  | .orAB => [0xB0]
  | .orAC => [0xB1]
  | .orAD => [0xB2]
  | .orAE => [0xB3]
  | .orAH => [0xB4]
  | .orAL => [0xB5]
  | .orAIndHl => [0xB6]
  | .orAA => [0xB7]
  | .cpAB => [0xB8]
  | .cpAC => [0xB9]
  | .cpAD => [0xBA]
  | .cpAE => [0xBB]
  | .cpAH => [0xBC]
  | .cpAL => [0xBD]
  | .cpAIndHl => [0xBE]
  | .cpAA => [0xBF]
  | .retNz => [0xC0]
  | .popBc => [0xC1]
  | .pushBc => [0xC5]
  | .rst00 => [0xC7]
  | .retZ => [0xC8]
  | .ret => [0xC9]
  | .rst08 => [0xCF]
  | .retNc => [0xD0]
  | .popDe => [0xD1]
  | .pushDe => [0xD5]
  | .rst10 => [0xD7]
  | .retC => [0xD8]
  | .reti => [0xD9]
  | .rst18 => [0xDF]
  | .popHl => [0xE1]
  | .ldhIndCA => [0xE2]
  | .pushHl => [0xE5]
  | .rst20 => [0xE7]
  | .jpHl => [0xE9]
  | .rst28 => [0xEF]
  | .popAf => [0xF1]
  | .ldhAIndC => [0xF2]
  | .di => [0xF3]
  | .pushAf => [0xF5]
  | .rst30 => [0xF7]
  | .ldSpHl => [0xF9]
  | .ei => [0xFB]
  | .rst38 => [0xFF]
  | .rlcB => [0xCB, 0x00]
  | .rlcC => [0xCB, 0x01]
  | .rlcD => [0xCB, 0x02]
  | .rlcE => [0xCB, 0x03]
  | .rlcH => [0xCB, 0x04]
  | .rlcL => [0xCB, 0x05]
  | .rlcIndHl => [0xCB, 0x06]
  | .rlcA => [0xCB, 0x07]
  | .rrcB => [0xCB, 0x08]
  | .rrcC => [0xCB, 0x09]
  | .rrcD => [0xCB, 0x0A]
  | .rrcE => [0xCB, 0x0B]
  | .rrcH => [0xCB, 0x0C]
  | .rrcL => [0xCB, 0x0D]
  | .rrcIndHl => [0xCB, 0x0E]
  | .rrcA => [0xCB, 0x0F]
  | .rlB => [0xCB, 0x10]
  | .rlC => [0xCB, 0x11]
  | .rlD => [0xCB, 0x12]
  | .rlE => [0xCB, 0x13]
  | .rlH => [0xCB, 0x14]
  | .rlL => [0xCB, 0x15]
  | .rlIndHl => [0xCB, 0x16]
  | .rlA => [0xCB, 0x17]
  | .rrB => [0xCB, 0x18]
  | .rrC => [0xCB, 0x19]
  | .rrD => [0xCB, 0x1A]
  | .rrE => [0xCB, 0x1B]
  | .rrH => [0xCB, 0x1C]
  | .rrL => [0xCB, 0x1D]
  | .rrIndHl => [0xCB, 0x1E]
  | .rrA => [0xCB, 0x1F]
  | .slaB => [0xCB, 0x20]
  | .slaC => [0xCB, 0x21]
  | .slaD => [0xCB, 0x22]
  | .slaE => [0xCB, 0x23]
  | .slaH => [0xCB, 0x24]
  | .slaL => [0xCB, 0x25]
  | .slaIndHl => [0xCB, 0x26]
  | .slaA => [0xCB, 0x27]
  | .sraB => [0xCB, 0x28]
  | .sraC => [0xCB, 0x29]
  | .sraD => [0xCB, 0x2A]
  | .sraE => [0xCB, 0x2B]
  | .sraH => [0xCB, 0x2C]
  | .sraL => [0xCB, 0x2D]
  | .sraIndHl => [0xCB, 0x2E]
  | .sraA => [0xCB, 0x2F]
  | .swapB => [0xCB, 0x30]
  | .swapC => [0xCB, 0x31]
  | .swapD => [0xCB, 0x32]
  | .swapE => [0xCB, 0x33]
  | .swapH => [0xCB, 0x34]
  | .swapL => [0xCB, 0x35]
  | .swapIndHl => [0xCB, 0x36]
  | .swapA => [0xCB, 0x37]
  | .srlB => [0xCB, 0x38]
  | .srlC => [0xCB, 0x39]
  | .srlD => [0xCB, 0x3A]
  | .srlE => [0xCB, 0x3B]
  | .srlH => [0xCB, 0x3C]
  | .srlL => [0xCB, 0x3D]
  | .srlIndHl => [0xCB, 0x3E]
  | .srlA => [0xCB, 0x3F]

/-! ### The opcode table's words -/

/-- The bytes, in address order, of a word whose bits are numbered as spec/opcode_table.json numbers
them. A row of 16 bits is an escape row, numbered there as `0xCB00 | op2` (30_encoding R70), so its
first byte is bits 15..8; in any other word bit 0 belongs to the first byte (log entry 8). -/
def tableWordBytes (nbits w : Nat) : List Byte :=
  let b0 := BitVec.ofNat 8 w
  let b1 := BitVec.ofNat 8 (w / 256)
  let b2 := BitVec.ofNat 8 (w / 65536)
  if nbits ≤ 8 then [b0, 0, 0]
  else if nbits ≤ 16 then (if b1 = escapeByte then [b1, b0, 0] else [b0, b1, 0])
  else [b0, b1, b2]

/-- The instruction the decoder reads from an opcode-table word, operand bytes beyond it zero. -/
def decodeTableWord (nbits w : Nat) : Option Instr :=
  match decode (tableWordBytes nbits w) with
  | .ok (i, _) => some i
  | .error _ => none

end Sys2Proof
end

