-- ==== Sys2Proof/Machine/State.lean ====
section
/-! DEFINITION. The machine's state as plain data, the reasons a step can stop, and launch. -/

namespace Sys2Proof.Machine

/-- The two fatal error kinds (60_exceptions R205). -/
inductive ErrorKind where
  | unmappedOpcode
  | unimplementedInstruction
  deriving DecidableEq, Repr

/-- Run status (10_state R30). `faulted` records the error kind, the opcode key and `pc0`, and is
terminal. -/
inductive Status where
  | running
  | faulted (kind : ErrorKind) (key : OpcodeKey) (pc0 : Word)
  deriving DecidableEq, Repr

/-- An out-of-range memory event (20_memory R36): `OOBRead(a)` or `OOBWrite(a, v)`. The address is a
number because `U16_WRAP = Linear` reaches 0x10000 (20_memory R39). -/
inductive OobEvent where
  | read (addr : Nat)
  | write (addr : Nat) (value : Byte)
  deriving DecidableEq, Repr

/-- The Memory Service's bytes (20_memory R37), as the addresses whose byte is not what an unlisted
address reads as (`Config.unlistedByte`), strictly rising. -/
abbrev Memory := List Host.Cell

/-- Everything the spec gives the machine: the register file (10_state R16), the run status (R30), the
Memory Service's contents (20_memory R37) and the fixed parameters (00_scope R7). `log` is the step's
list of out-of-range events (10_state R31), an output that this model carries here because a step
answers only a state; no operation reads it (log entry 5). -/
structure State where
  a : Byte
  f : Byte
  b : Byte
  c : Byte
  d : Byte
  e : Byte
  h : Byte
  l : Byte
  sp : Word
  pc : Word
  status : Status
  mem : Memory
  config : Config
  log : List OobEvent
  deriving DecidableEq, Repr

/-- Why a step stops. -/
inductive Fault where
  /-- Raised by `step` alone, when `status` is `Faulted`: no step is enabled from it (10_state R30;
  60_exceptions R209). Safe: the core itself stands still there. -/
  | stopped (kind : ErrorKind) (key : OpcodeKey) (pc0 : Word)
  deriving DecidableEq, Repr

/-- Why an instruction has no meaning. -/
inductive Refusal where
  /-- Raised by an arm of `exec` whose instruction the model does not cover yet. Safe. No arm is. -/
  | notModelled (mnemonic : String)
  deriving DecidableEq, Repr

/-- Launch (70_reset_and_hazards R218): registers from P9 (F stored as written), `status` Running, memory
from P10, the parameters P1 to P8 fixed for the run. -/
def State.launch (config : Config) (init : Init) (image : Memory) : State where
  a := init.a
  f := init.f
  b := init.b
  c := init.c
  d := init.d
  e := init.e
  h := init.h
  l := init.l
  sp := init.sp
  pc := init.pc
  status := .running
  mem := image
  config := config
  log := []

/-- The machine right after reset: the launch with the default parameters (00_scope R8), PC = 0x0000
(10_state R34), the register values of log entry 1 and no memory listed (log entry 2). -/
def State.reset : State := State.launch Config.default Init.default []

end Sys2Proof.Machine
end

