-- ==== Sys2Proof/Machine/Flags.lean ====
section
/-! DEFINITION. The flags byte and its view (10_state R22 to R26), the conditions (45_control R188) and
every flag computation of the spec: the ALU functions (42_alu8 R122, R123, R125), increment and decrement,
the decimal adjust, the 16-bit adds and the rotates and shifts. -/

namespace Sys2Proof.Machine

/-! ### The flag view -/

/-- A bit position of F (10_state R24): any of 0..7. -/
abbrev FlagBit := Fin 8

/-- Zero is bit 7 (10_state R22). -/
def flagZ : FlagBit := 7

/-- Subtract is bit 6 (10_state R22). -/
def flagN : FlagBit := 6

/-- Half-carry is bit 5 (10_state R22). -/
def flagH : FlagBit := 5

/-- Carry is bit 4 (10_state R22). -/
def flagC : FlagBit := 4

/-- `m = 1 << b` (10_state R24). -/
def flagMask (b : FlagBit) : Byte := 1#8 <<< b.val

/-- `as_bool(b)` (10_state R24). -/
def asBool (b : FlagBit) (f : Byte) : Bool := f.getLsbD b.val

/-- `set(b)` (10_state R24). -/
def flagSet (b : FlagBit) (f : Byte) : Byte := f ||| flagMask b

/-- `reset(b)` (10_state R24). -/
def flagReset (b : FlagBit) (f : Byte) : Byte := f &&& (0xFF ^^^ flagMask b)

/-- `toggle(b)` (10_state R24). -/
def flagToggle (b : FlagBit) (f : Byte) : Byte := f ^^^ flagMask b

/-- `set_bool(b, v)` (10_state R24). -/
def flagSetBool (b : FlagBit) (v : Bool) (f : Byte) : Byte :=
  if v then flagSet b f else flagReset b f

/-- Write the four named flags, leaving bits 3..0 (10_state R23, R24). -/
def writeFlags (z n h c : Bool) (f : Byte) : Byte :=
  flagSetBool flagC c (flagSetBool flagH h (flagSetBool flagN n (flagSetBool flagZ z f)))

/-- Write Z, N and H, leaving C and bits 3..0. -/
def writeZNH (z n h : Bool) (f : Byte) : Byte :=
  flagSetBool flagH h (flagSetBool flagN n (flagSetBool flagZ z f))

/-- `WriteF(v)`: what F holds after a whole-byte write of v (10_state R26, P3). -/
def wholeF (fLow : FLow) (v : Byte) : Byte :=
  match fLow with
  | .asWritten => v
  | .zero => v &&& 0xF0
  | .one => v ||| 0x0F

/-- `cond(k)` against F (45_control R188). -/
def condHolds (k : Cond) (f : Byte) : Bool :=
  match k with
  | .always => true
  | .nz => !(asBool flagZ f)
  | .z => asBool flagZ f
  | .nc => !(asBool flagC f)
  | .c => asBool flagC f
  | .nn => !(asBool flagN f)
  | .n => asBool flagN f
  | .nh => !(asBool flagH f)
  | .h => asBool flagH f

/-! ### 8-bit arithmetic and logic -/

/-- A u8 result and the four named flags. -/
structure AluResult where
  result : Byte
  z : Bool
  n : Bool
  h : Bool
  c : Bool
  deriving DecidableEq, Repr

/-- A carry as the u8 0 or 1. -/
def carryByte (c : Bool) : Byte := if c then 1 else 0

/-- `((a ^ b ^ r) & 0x10) != 0` (42_alu8 R122, R123). -/
def halfBit (a b r : Byte) : Bool := decide ((a ^^^ b ^^^ r) &&& 0x10 ≠ 0)

/-- `Add8(a, b, cin)`: two wrapping steps whose carries and half-carries are ORed (42_alu8 R122). -/
def add8 (a b : Byte) (cin : Bool) : AluResult :=
  let r1 := a + b
  let k := carryByte cin
  let r := r1 + k
  { result := r
    z := decide (r = 0)
    n := false
    h := halfBit a b r1 || halfBit r1 k r
    c := decide (a.toNat + b.toNat > 0xFF) || decide (r1.toNat + k.toNat > 0xFF) }

/-- `Sub8(a, b, cin)`: two wrapping steps whose borrows are ORed (42_alu8 R123). -/
def sub8 (a b : Byte) (cin : Bool) : AluResult :=
  let r1 := a - b
  let k := carryByte cin
  let r := r1 - k
  { result := r
    z := decide (r = 0)
    n := true
    h := halfBit a b r1 || halfBit r1 k r
    c := decide (a.toNat < b.toNat) || decide (r1.toNat < k.toNat) }

/-- `And8`, `Xor8` and `Or8` share this shape: N = 0, C = 0 and a fixed H (42_alu8 R125). -/
def logic8 (r : Byte) (h : Bool) : AluResult :=
  { result := r, z := decide (r = 0), n := false, h := h, c := false }

/-- The ALU function of an operation, with the carry that ADC and SBC read (42_alu8 R126 to R149). -/
def aluFunction (op : AluOp) (a b : Byte) (carry : Bool) : AluResult :=
  match op with
  | .add => add8 a b false
  | .adc => add8 a b carry
  | .sub => sub8 a b false
  | .sbc => sub8 a b carry
  | .and => logic8 (a &&& b) true
  | .xor => logic8 (a ^^^ b) false
  | .or => logic8 (a ||| b) false
  | .cp => sub8 a b false

/-- A combine of `BinaryOp`: a pure function of both operands and F that gives the result and the new F
(30_encoding R88). -/
abbrev Combine8 := Byte → Byte → Byte → Byte × Byte

/-- The combine of an ALU operation: all four named flags are written (42_alu8 R126 to R149). -/
def aluCombine (op : AluOp) : Combine8 := fun a b f =>
  let r := aluFunction op a b (asBool flagC f)
  (r.result, writeFlags r.z r.n r.h r.c f)

/-- The combine of INC: C is not touched (42_alu8 R150). -/
def incCombine : Combine8 := fun a b f =>
  (a + b, writeZNH (decide (a + b = 0)) false (halfBit a b (a + b)) f)

/-- The combine of DEC: C is not touched (42_alu8 R152). -/
def decCombine : Combine8 := fun a b f =>
  (a - b, writeZNH (decide (a - b = 0)) true (halfBit a b (a - b)) f)

/-- DAA on A and F (42_alu8 R154): N is unchanged, H is cleared, C is never cleared. -/
def daaAdjust (a f : Byte) : Byte × Byte :=
  let n := asBool flagN f
  let h := asBool flagH f
  let c := asBool flagC f
  if n then
    let a1 := if c then a - 0x60 else a
    let a2 := if h then a1 - 0x06 else a1
    (a2, flagSetBool flagC c (flagSetBool flagH false (flagSetBool flagZ (decide (a2 = 0)) f)))
  else
    let high := c || decide (a.toNat > 0x99)
    let a1 := if high then a + 0x60 else a
    let a2 := if h || decide ((a1 &&& 0x0F).toNat > 0x09) then a1 + 0x06 else a1
    (a2, flagSetBool flagC high (flagSetBool flagH false (flagSetBool flagZ (decide (a2 = 0)) f)))

/-- CPL's flags: N = 1, H = 1 (42_alu8 R155). -/
def cplFlags (f : Byte) : Byte := flagSetBool flagH true (flagSetBool flagN true f)

/-- SCF's flags: N = 0, H = 0, C = 1 (42_alu8 R156). -/
def scfFlags (f : Byte) : Byte :=
  flagSetBool flagC true (flagSetBool flagH false (flagSetBool flagN false f))

/-- CCF's flags: N = 0, H = 0, C toggled (42_alu8 R157). -/
def ccfFlags (f : Byte) : Byte :=
  flagToggle flagC (flagSetBool flagH false (flagSetBool flagN false f))

/-! ### 16-bit arithmetic -/

/-- The mask P4 names (00_scope R7). -/
def h16Value (m : H16Mask) : Word :=
  match m with
  | .m0100 => 0x0100
  | .m1000 => 0x1000

/-- A combine of `BinaryOp` at 16 bits (30_encoding R88). -/
abbrev Combine16 := Word → Word → Byte → Word × Byte

/-- The combine of ADD HL,rr (43_alu16 R160): N = 0, H at the bit of P4, C out of bit 15, Z by P5. -/
def add16Combine (cfg : Config) : Combine16 := fun a b f =>
  let r := a + b
  let f1 := flagSetBool flagN false f
  let f2 := flagSetBool flagH (decide ((a ^^^ b ^^^ r) &&& h16Value cfg.h16Mask ≠ 0)) f1
  let f3 := flagSetBool flagC (decide (a.toNat + b.toNat > 0xFFFF)) f2
  (r, match cfg.z16Add with
      | .write => flagSetBool flagZ (decide (r = 0)) f3
      | .keep => f3)

/-- The combine of INC rr: no flag (43_alu16 R158). -/
def inc16Combine : Combine16 := fun a b f => (a + b, f)

/-- The combine of DEC rr: no flag (43_alu16 R159). -/
def dec16Combine : Combine16 := fun a b f => (a - b, f)

/-- The flags of the unsigned add of SP's low byte and the raw byte n: Z = 0, N = 0, H and C the carries
out of bits 3 and 7 (43_alu16 R161; 41_load16_stack R119 under `SM83`). -/
def spOffsetFlags (sp : Word) (n : Byte) (f : Byte) : Byte :=
  writeFlags false false
    (decide ((lo sp &&& 0x0F).toNat + (n &&& 0x0F).toNat > 0x0F))
    (decide ((lo sp).toNat + n.toNat > 0xFF)) f

/-- The flags of LD HL,SP+e8 (41_load16_stack R119, P6). -/
def speLoadFlags (cfg : Config) (sp : Word) (n : Byte) (f : Byte) : Byte :=
  match cfg.speLoadFlags with
  | .keep => f
  | .sm83 => spOffsetFlags sp n f

/-! ### Rotates, shifts and bits -/

/-- The result and the outgoing carry of a rotate or shift of v with F.C = `cin`
(44_rotate_shift_bit R166 to R181). -/
def rotFunction (op : RotOp) (v : Byte) (cin : Bool) : Byte × Bool :=
  let bit7 := v.getLsbD 7
  let bit0 := v.getLsbD 0
  match op with
  | .rlc => ((v <<< 1) ||| carryByte bit7, bit7)
  | .rrc => ((v >>> 1) ||| (carryByte bit0 <<< 7), bit0)
  | .rl => ((v <<< 1) ||| carryByte cin, bit7)
  | .rr => ((v >>> 1) ||| (carryByte cin <<< 7), bit0)
  | .sla => (v <<< 1, bit7)
  | .sra => ((v >>> 1) ||| (v &&& 0x80), bit0)
  | .swap => ((v <<< 4) ||| (v >>> 4), false)
  | .srl => (v >>> 1, bit0)

/-- The result and the new F of an escaped rotate or shift: Z from the result, N = H = 0
(44_rotate_shift_bit R166 to R181). -/
def rotModify (op : RotOp) (v f : Byte) : Byte × Byte :=
  let r := rotFunction op v (asBool flagC f)
  (r.1, writeFlags (decide (r.1 = 0)) false false r.2 f)

/-- The result and the new F of a one-byte rotate of A: Z is always 0 (44_rotate_shift_bit R162 to R165). -/
def rotAModify (op : RotOp) (v f : Byte) : Byte × Byte :=
  let r := rotFunction op v (asBool flagC f)
  (r.1, writeFlags false false false r.2 f)

/-- `1 << b` as a u8 mask (44_rotate_shift_bit R184, R186). -/
def bitMask (b : Nat) : Byte := 1#8 <<< b

/-- BIT's flags: Z = 1 - v[b], N = 0, H = 1, C unchanged (44_rotate_shift_bit R182). -/
def bitTestFlags (b : Nat) (v f : Byte) : Byte := writeZNH (!(v.getLsbD b)) false true f

/-- RES clears bit b and writes no flag (44_rotate_shift_bit R184). -/
def resModify (b : Nat) (v f : Byte) : Byte × Byte := (v &&& (0xFF ^^^ bitMask b), f)

/-- SET sets bit b and writes no flag (44_rotate_shift_bit R186). -/
def setModify (b : Nat) (v f : Byte) : Byte × Byte := (v ||| bitMask b, f)

end Sys2Proof.Machine
end

