-- ==== Sys2Proof/Machine/Ops.lean ====
section
/-! DEFINITION. The named operations over memory and registers: the Memory Service (20_memory), the register
file (10_state), the stack primitives (41_load16_stack R114), the outcomes of an instruction (30_encoding
R91) and raising a fatal error (60_exceptions R206), which is all the exception entry this machine has:
nothing saves state for a handler and no instruction returns from one (60_exceptions R212). -/

namespace Sys2Proof.Machine

/-- What a meaning answers. -/
abbrev Result := Host.Outcome State Fault Refusal

/-! ### Widths -/

/-- `sext_16(b)` (00_scope R10). -/
def sext16 (b : Byte) : Word := if b.toNat < 0x80 then b.setWidth 16 else b.setWidth 16 + 0xFF00

/-- `0xFF00 | b`: the high-page address of a byte (30_encoding R82). -/
def highPage (b : Byte) : Word := 0xFF00 ||| b.setWidth 16

/-! ### Memory as data -/

/-- The byte at an address: the listed one, or what an unlisted address reads as. -/
def Memory.get : Memory → Nat → Byte
  | [], _ => Config.unlistedByte
  | (k, v) :: m, a => if k = a then v else Memory.get m a

/-- The memory without any entry for an address. -/
def Memory.erase : Memory → Nat → Memory
  | [], _ => []
  | (k, v) :: m, a => if k = a then Memory.erase m a else (k, v) :: Memory.erase m a

/-- The memory with an entry put before the first one of a higher address. -/
def Memory.insert : Memory → Nat → Byte → Memory
  | [], a, v => [(a, v)]
  | (k, w) :: m, a, v => if a < k then (a, v) :: (k, w) :: m else (k, w) :: Memory.insert m a v

/-- The memory with v at an address, in canonical form again: writing what an unlisted address reads as
removes the entry. -/
def Memory.set (m : Memory) (a : Nat) (v : Byte) : Memory :=
  if v = Config.unlistedByte then Memory.erase m a else Memory.insert (Memory.erase m a) a v

/-- Every listed address is above `low` and the addresses rise strictly. -/
def Memory.risesFrom : Nat → Memory → Bool
  | _, [] => true
  | low, (k, _) :: m => decide (low ≤ k) && Memory.risesFrom (k + 1) m

/-- The canonical form: addresses strictly rising, and no entry equal to what an unlisted address reads
as. -/
def Memory.wf (m : Memory) : Bool :=
  Memory.risesFrom 0 m && m.all (fun cell => decide (cell.2 ≠ Config.unlistedByte))

/-! ### The Memory Service (20_memory R35 to R41) -/

/-- The address is backed (20_memory R36). -/
def State.inRange (s : State) (a : Nat) : Bool := decide (a < s.config.memSize)

/-- The value a byte read returns: the store's byte in range, 0 out of range (20_memory R36, R37). -/
def State.peek (s : State) (a : Nat) : Byte := if s.inRange a then Memory.get s.mem a else 0

/-- The events of a step so far, with one more. -/
def State.noteEvent (e : OobEvent) (s : State) : State := { s with log := s.log ++ [e] }

/-- What a byte read does besides returning its value: an event if out of range, else nothing
(20_memory R36, R37). -/
def State.noteRead (a : Nat) (s : State) : State :=
  if s.inRange a then s else s.noteEvent (.read a)

/-- `read_u8(a)` (20_memory R36, R37). -/
def readU8 (a : Nat) (s : State) : Byte × State := (s.peek a, s.noteRead a)

/-- `write_u8(a, v)`: stored in range, discarded and logged out of range (20_memory R36, R37). -/
def writeU8 (a : Nat) (v : Byte) (s : State) : State :=
  if s.inRange a then { s with mem := Memory.set s.mem a v } else s.noteEvent (.write a v)

/-- `a2`: where the high byte of a word at `a` is (20_memory R39, P7). -/
def secondAddr (cfg : Config) (a : Word) : Nat :=
  match cfg.u16Wrap with
  | .wrap => (a + 1).toNat
  | .linear => a.toNat + 1

/-- `read_u16(a)`: low byte at a, then high byte at a2 (20_memory R39). -/
def readU16 (a : Word) (s : State) : Word × State :=
  let low := readU8 a.toNat s
  let high := readU8 (secondAddr s.config a) low.2
  (cat high.1 low.1, high.2)

/-- `write_u16(a, w)`: low byte at a, then high byte at a2 (20_memory R40). -/
def writeU16 (a : Word) (w : Word) (s : State) : State :=
  writeU8 (secondAddr s.config a) (hi w) (writeU8 a.toNat (lo w) s)

/-! ### The register file (10_state R16 to R20) -/

/-- `x[n]` for an 8-bit register (10_state R18). -/
def State.get8 (s : State) (r : Reg8) : Byte :=
  match r with
  | .a => s.a
  | .b => s.b
  | .c => s.c
  | .d => s.d
  | .e => s.e
  | .h => s.h
  | .l => s.l

/-- `x[n] <- v` for an 8-bit register (10_state R18). -/
def State.set8 (r : Reg8) (v : Byte) (s : State) : State :=
  match r with
  | .a => { s with a := v }
  | .b => { s with b := v }
  | .c => { s with c := v }
  | .d => { s with d := v }
  | .e => { s with e := v }
  | .h => { s with h := v }
  | .l => { s with l := v }

/-- `x[n]` for a pair or SP; the first-named register is the high byte (10_state R17). -/
def State.get16 (s : State) (r : Reg16) : Word :=
  match r with
  | .af => cat s.a s.f
  | .bc => cat s.b s.c
  | .de => cat s.d s.e
  | .hl => cat s.h s.l
  | .sp => s.sp

/-- `x[n] <- w` for a pair or SP; a write of AF writes F through `WriteF` (10_state R17, R26). -/
def State.set16 (r : Reg16) (w : Word) (s : State) : State :=
  match r with
  | .af => { s with a := hi w, f := wholeF s.config.fLow (lo w) }
  | .bc => { s with b := hi w, c := lo w }
  | .de => { s with d := hi w, e := lo w }
  | .hl => { s with h := hi w, l := lo w }
  | .sp => { s with sp := w }

/-- Write F through the flag view's result (10_state R24). -/
def State.setF (v : Byte) (s : State) : State := { s with f := v }

/-- Write SP (10_state R19). -/
def State.setSp (w : Word) (s : State) : State := { s with sp := w }

/-- Write PC (10_state R20). -/
def State.setPc (w : Word) (s : State) : State := { s with pc := w }

/-- Write the run status (10_state R30). -/
def State.setStatus (x : Status) (s : State) : State := { s with status := x }

/-- Set the step's event list (10_state R31). -/
def State.setLog (x : List OobEvent) (s : State) : State := { s with log := x }

/-! ### The stack (41_load16_stack R114) -/

/-- `Push16(w)` (41_load16_stack R114, P2). -/
def push16 (w : Word) (s : State) : State :=
  match s.config.stackDir with
  | .up => (writeU16 s.sp w s).setSp (s.sp + 2)
  | .down => writeU16 (s.sp - 2) w (s.setSp (s.sp - 2))

/-- `Pop16()` (41_load16_stack R114, P2). -/
def pop16 (s : State) : Word × State :=
  match s.config.stackDir with
  | .up => readU16 (s.sp - 2) (s.setSp (s.sp - 2))
  | .down =>
    let r := readU16 s.sp s
    (r.1, r.2.setSp (s.sp + 2))

/-! ### Outcomes of an instruction (30_encoding R90, R91)

PC holds pc0 until an instruction ends, so `next = wrap16(pc0 + len)` is computed from it. -/

/-- `Advance`: `pc <- wrap16(pc0 + len)`. -/
def advance (len : Word) (s : State) : Result := .next (s.setPc (s.pc + len))

/-- `Branch(t)`: `pc <- t`. -/
def branch (t : Word) (s : State) : Result := .next (s.setPc t)

/-- `raise`: `status` becomes `Faulted(kind, key, pc0)` and nothing else changes (60_exceptions R206).
The error of an instruction is the NEXT state, because the spec says what it leaves (log entry 7). -/
def raiseError (kind : ErrorKind) (key : OpcodeKey) (s : State) : Result :=
  .next (s.setStatus (.faulted kind key s.pc))

/-- The numeric code of an error kind (60_exceptions R205). -/
def errorCode : ErrorKind → Nat
  | .unmappedOpcode => 1
  | .unimplementedInstruction => 2

/-- `set_interrupt(enable)`: a no-op, because the core holds no interrupt state (46_misc R203, R204). -/
def setInterrupt (_enable : Bool) (s : State) : State := s

end Sys2Proof.Machine
end

