-- ==== Sys2Proof/Machine/Operands.lean ====
section
/-! DEFINITION. The operand descriptors (30_encoding R78 to R86) with their read and write capabilities in
their types, and the semantic combinators over them (30_encoding R87, R88 and their kin). -/

namespace Sys2Proof.Machine

mutual

/-- A descriptor that can be read for a byte: `Reg8`, `Imm8`, `Const`, and `Ind8` over a 16-bit or an
8-bit (high-page) address descriptor (30_encoding R79 to R82, R84). -/
inductive Src8 where
  | reg (r : Reg8)
  | imm (n : Byte)
  | const (v : Byte)
  | ind (addr : Src16)
  | indHigh (addr : Src8)

/-- A descriptor that can be read for a word: `Reg16`, `Imm16`, `Const`, `Ind16`, `PostInc`, `PostDec` and
`OffsetSum` (30_encoding R79 to R84, R86). -/
inductive Src16 where
  | reg (r : Reg16)
  | imm (w : Word)
  | const (w : Word)
  | ind (addr : Src16)
  | indHigh (addr : Src8)
  | postInc (r : Reg16)
  | postDec (r : Reg16)
  | offsetSum (x : Src16) (y : Src8)

end

/-- A byte descriptor with both capabilities: `Reg8`, `Ind8`, and `NoWrite` over one (30_encoding R78,
R85). -/
inductive Dst8 where
  | reg (r : Reg8)
  | ind (addr : Src16)
  | indHigh (addr : Src8)
  | noWrite (inner : Dst8)

/-- A word descriptor with both capabilities: `Reg16`, `Ind16`, and `NoWrite` over one. -/
inductive Dst16 where
  | reg (r : Reg16)
  | ind (addr : Src16)
  | indHigh (addr : Src8)
  | noWrite (inner : Dst16)

mutual

/-- `read(d)` of a byte descriptor (30_encoding R79 to R82, R84). -/
def read8 : Src8 → State → Byte × State
  | .reg r, s => (s.get8 r, s)
  | .imm n, s => (n, s)
  | .const v, s => (v, s)
  | .ind addr, s =>
    let a := read16 addr s
    readU8 a.1.toNat a.2
  | .indHigh addr, s =>
    let b := read8 addr s
    readU8 (highPage b.1).toNat b.2

/-- `read(d)` of a word descriptor; PostInc and PostDec return the value before the change
(30_encoding R79 to R84, R86). -/
def read16 : Src16 → State → Word × State
  | .reg r, s => (s.get16 r, s)
  | .imm w, s => (w, s)
  | .const w, s => (w, s)
  | .ind addr, s =>
    let a := read16 addr s
    readU16 a.1 a.2
  | .indHigh addr, s =>
    let b := read8 addr s
    readU16 (highPage b.1) b.2
  | .postInc r, s => (s.get16 r, s.set16 r (s.get16 r + 1))
  | .postDec r, s => (s.get16 r, s.set16 r (s.get16 r - 1))
  | .offsetSum x y, s =>
    let a := read16 x s
    let b := read8 y a.2
    (a.1 + sext16 b.1, b.2)

end

/-- The read capability of a byte descriptor that can also be written; `NoWrite` reads as what it wraps. -/
def Dst8.src : Dst8 → Src8
  | .reg r => .reg r
  | .ind addr => .ind addr
  | .indHigh addr => .indHigh addr
  | .noWrite inner => inner.src

/-- The read capability of a word descriptor that can also be written. -/
def Dst16.src : Dst16 → Src16
  | .reg r => .reg r
  | .ind addr => .ind addr
  | .indHigh addr => .indHigh addr
  | .noWrite inner => inner.src

/-- `write(d, v)` of a byte descriptor (30_encoding R79, R81, R85). -/
def write8 (d : Dst8) (v : Byte) (s : State) : State :=
  match d with
  | .reg r => s.set8 r v
  | .ind addr =>
    let a := read16 addr s
    writeU8 a.1.toNat v a.2
  | .indHigh addr =>
    let b := read8 addr s
    writeU8 (highPage b.1).toNat v b.2
  | .noWrite _ => s

/-- `write(d, w)` of a word descriptor (30_encoding R79, R81, R85). -/
def write16 (d : Dst16) (w : Word) (s : State) : State :=
  match d with
  | .reg r => s.set16 r w
  | .ind addr =>
    let a := read16 addr s
    writeU16 a.1 w a.2
  | .indHigh addr =>
    let b := read8 addr s
    writeU16 (highPage b.1) w b.2
  | .noWrite _ => s

/-- The byte at HL, `Ind8(Reg16(HL))`. -/
def indHl : Dst8 := .ind (.reg .hl)

/-! ### Semantic combinators -/

/-- `Load(dest, src)` at 8 bits, then `Advance` by the instruction's length (30_encoding R87). -/
def load8 (len : Word) (d : Dst8) (src : Src8) (s : State) : Result :=
  let v := read8 src s
  advance len (write8 d v.1 v.2)

/-- `Load(dest, src)` at 16 bits, then `Advance` (30_encoding R87). -/
def load16 (len : Word) (d : Dst16) (src : Src16) (s : State) : Result :=
  let v := read16 src s
  advance len (write16 d v.1 v.2)

/-- `BinaryOp(lhs, rhs, combine)` at 8 bits, then `Advance` (30_encoding R88). -/
def binaryOp8 (len : Word) (lhs : Dst8) (rhs : Src8) (combine : Combine8) (s : State) : Result :=
  let a := read8 lhs.src s
  let b := read8 rhs a.2
  let r := combine a.1 b.1 b.2.f
  advance len ((write8 lhs r.1 b.2).setF r.2)

/-- `BinaryOp(lhs, rhs, combine)` at 16 bits, then `Advance` (30_encoding R88). -/
def binaryOp16 (len : Word) (lhs : Dst16) (rhs : Src16) (combine : Combine16) (s : State) : Result :=
  let a := read16 lhs.src s
  let b := read16 rhs a.2
  let r := combine a.1 b.1 b.2.f
  advance len ((write16 lhs r.1 b.2).setF r.2)

/-- Read a byte, compute a new byte and F from it, write both back, then `Advance`: the shape of the
rotates, shifts, RES and SET (44_rotate_shift_bit R162 to R187). -/
def modify8 (len : Word) (d : Dst8) (g : Byte → Byte → Byte × Byte) (s : State) : Result :=
  let v := read8 d.src s
  let r := g v.1 v.2.f
  advance len ((write8 d r.1 v.2).setF r.2)

/-- Read a byte and write F only, then `Advance`: the shape of BIT (44_rotate_shift_bit R182, R183). -/
def test8 (len : Word) (src : Src8) (g : Byte → Byte → Byte) (s : State) : Result :=
  let v := read8 src s
  advance len (v.2.setF (g v.1 v.2.f))

/-- Change F alone, then `Advance` (42_alu8 R156, R157). -/
def modifyF (len : Word) (g : Byte → Byte) (s : State) : Result := advance len (s.setF (g s.f))

/-- PUSH rr: `Push16(x[rr])`, then `Advance` (41_load16_stack R120). -/
def pushReg (len : Word) (r : Reg16) (s : State) : Result := advance len (push16 (s.get16 r) s)

/-- POP rr: `w = Pop16(); x[rr] <- w`, then `Advance` (41_load16_stack R121). -/
def popReg (len : Word) (r : Reg16) (s : State) : Result :=
  let w := pop16 s
  advance len (w.2.set16 r w.1)

/-- `Push16(next); Branch(t)` for an instruction of the given length (45_control R194, R199). -/
def callTo (len : Word) (t : Word) (s : State) : Result := branch t (push16 (s.pc + len) s)

/-- `t = Pop16(); Branch(t)` (45_control R196). -/
def returnPop (s : State) : Result :=
  let t := pop16 s
  branch t.1 t.2

/-- The target of a relative jump: `wrap16(next + sext_16(e))`, next = pc0 + 2 (45_control R192). -/
def relativeTarget (e : Byte) (s : State) : Word := s.pc + 2 + sext16 e

/-- A jump of the given length to t when the condition holds, else `Advance` (45_control R191, R193). -/
def jumpIf (k : Cond) (len : Word) (t : Word) (s : State) : Result :=
  if condHolds k s.f then branch t s else advance len s

/-- A call of the given length to t when the condition holds, else `Advance` (45_control R195). -/
def callIf (k : Cond) (len : Word) (t : Word) (s : State) : Result :=
  if condHolds k s.f then callTo len t s else advance len s

/-- A return when the condition holds, else `Advance` by the given length (45_control R197). -/
def returnIf (k : Cond) (len : Word) (s : State) : Result :=
  if condHolds k s.f then returnPop s else advance len s

end Sys2Proof.Machine
end

