-- ==== Sys2Proof/Machine/Alu16.lean ====
section
/-! DEFINITION. 16-bit arithmetic (43_alu16 R158 to R161).
Each meaning is one line over the shared operations. -/

namespace Sys2Proof.Machine

/-- `INC BC`, 0x03 (R158). -/
def execIncBc (s : State) : Result := binaryOp16 1 (.reg .bc) (.const 1) inc16Combine s

/-- `INC DE`, 0x13 (R158). -/
def execIncDe (s : State) : Result := binaryOp16 1 (.reg .de) (.const 1) inc16Combine s

/-- `INC HL`, 0x23 (R158). -/
def execIncHl (s : State) : Result := binaryOp16 1 (.reg .hl) (.const 1) inc16Combine s

/-- `INC SP`, 0x33 (R158). -/
def execIncSp (s : State) : Result := binaryOp16 1 (.reg .sp) (.const 1) inc16Combine s

/-- `DEC BC`, 0x0B (R159). -/
def execDecBc (s : State) : Result := binaryOp16 1 (.reg .bc) (.const 1) dec16Combine s

/-- `DEC DE`, 0x1B (R159). -/
def execDecDe (s : State) : Result := binaryOp16 1 (.reg .de) (.const 1) dec16Combine s

/-- `DEC HL`, 0x2B (R159). -/
def execDecHl (s : State) : Result := binaryOp16 1 (.reg .hl) (.const 1) dec16Combine s

/-- `DEC SP`, 0x3B (R159). -/
def execDecSp (s : State) : Result := binaryOp16 1 (.reg .sp) (.const 1) dec16Combine s

/-- `ADD HL,BC`, 0x09 (R160). -/
def execAddHlBc (s : State) : Result := binaryOp16 1 (.reg .hl) (.reg .bc) (add16Combine s.config) s

/-- `ADD HL,DE`, 0x19 (R160). -/
def execAddHlDe (s : State) : Result := binaryOp16 1 (.reg .hl) (.reg .de) (add16Combine s.config) s

/-- `ADD HL,HL`, 0x29 (R160). -/
def execAddHlHl (s : State) : Result := binaryOp16 1 (.reg .hl) (.reg .hl) (add16Combine s.config) s

/-- `ADD HL,SP`, 0x39 (R160). -/
def execAddHlSp (s : State) : Result := binaryOp16 1 (.reg .hl) (.reg .sp) (add16Combine s.config) s

/-- `ADD SP,e8`, 0xE8 (R161). -/
def execAddSpE8 (e : Byte) (s : State) : Result :=
  advance 2 ((s.setSp (s.sp + sext16 e)).setF (spOffsetFlags s.sp e s.f))

end Sys2Proof.Machine
end

