-- ==== Sys2Proof/Machine/Alu8.lean ====
section
/-! DEFINITION. 8-bit arithmetic and logic (42_alu8 R126 to R157).
Each meaning is one line over the shared operations. -/

namespace Sys2Proof.Machine

/-- `ADD A,B`, 0x80 (R126). -/
def execAddAB (s : State) : Result := binaryOp8 1 (.reg .a) (.reg .b) (aluCombine .add) s

/-- `ADD A,C`, 0x81 (R126). -/
def execAddAC (s : State) : Result := binaryOp8 1 (.reg .a) (.reg .c) (aluCombine .add) s

/-- `ADD A,D`, 0x82 (R126). -/
def execAddAD (s : State) : Result := binaryOp8 1 (.reg .a) (.reg .d) (aluCombine .add) s

/-- `ADD A,E`, 0x83 (R126). -/
def execAddAE (s : State) : Result := binaryOp8 1 (.reg .a) (.reg .e) (aluCombine .add) s

/-- `ADD A,H`, 0x84 (R126). -/
def execAddAH (s : State) : Result := binaryOp8 1 (.reg .a) (.reg .h) (aluCombine .add) s

/-- `ADD A,L`, 0x85 (R126). -/
def execAddAL (s : State) : Result := binaryOp8 1 (.reg .a) (.reg .l) (aluCombine .add) s

/-- `ADD A,A`, 0x87 (R126). -/
def execAddAA (s : State) : Result := binaryOp8 1 (.reg .a) (.reg .a) (aluCombine .add) s

/-- `ADD A,(HL)`, 0x86 (R127). -/
def execAddAIndHl (s : State) : Result := binaryOp8 1 (.reg .a) (.ind (.reg .hl)) (aluCombine .add) s

/-- `ADD A,n8`, 0xC6 (R128). -/
def execAddAN8 (n : Byte) (s : State) : Result := binaryOp8 2 (.reg .a) (.imm n) (aluCombine .add) s

/-- `ADC A,B`, 0x88 (R129). -/
def execAdcAB (s : State) : Result := binaryOp8 1 (.reg .a) (.reg .b) (aluCombine .adc) s

/-- `ADC A,C`, 0x89 (R129). -/
def execAdcAC (s : State) : Result := binaryOp8 1 (.reg .a) (.reg .c) (aluCombine .adc) s

/-- `ADC A,D`, 0x8A (R129). -/
def execAdcAD (s : State) : Result := binaryOp8 1 (.reg .a) (.reg .d) (aluCombine .adc) s

/-- `ADC A,E`, 0x8B (R129). -/
def execAdcAE (s : State) : Result := binaryOp8 1 (.reg .a) (.reg .e) (aluCombine .adc) s

/-- `ADC A,H`, 0x8C (R129). -/
def execAdcAH (s : State) : Result := binaryOp8 1 (.reg .a) (.reg .h) (aluCombine .adc) s

/-- `ADC A,L`, 0x8D (R129). -/
def execAdcAL (s : State) : Result := binaryOp8 1 (.reg .a) (.reg .l) (aluCombine .adc) s

/-- `ADC A,A`, 0x8F (R129). -/
def execAdcAA (s : State) : Result := binaryOp8 1 (.reg .a) (.reg .a) (aluCombine .adc) s

/-- `ADC A,(HL)`, 0x8E (R130). -/
def execAdcAIndHl (s : State) : Result := binaryOp8 1 (.reg .a) (.ind (.reg .hl)) (aluCombine .adc) s

/-- `ADC A,n8`, 0xCE (R131). -/
def execAdcAN8 (n : Byte) (s : State) : Result := binaryOp8 2 (.reg .a) (.imm n) (aluCombine .adc) s

/-- `SUB A,B`, 0x90 (R132). -/
def execSubAB (s : State) : Result := binaryOp8 1 (.reg .a) (.reg .b) (aluCombine .sub) s

/-- `SUB A,C`, 0x91 (R132). -/
def execSubAC (s : State) : Result := binaryOp8 1 (.reg .a) (.reg .c) (aluCombine .sub) s

/-- `SUB A,D`, 0x92 (R132). -/
def execSubAD (s : State) : Result := binaryOp8 1 (.reg .a) (.reg .d) (aluCombine .sub) s

/-- `SUB A,E`, 0x93 (R132). -/
def execSubAE (s : State) : Result := binaryOp8 1 (.reg .a) (.reg .e) (aluCombine .sub) s

/-- `SUB A,H`, 0x94 (R132). -/
def execSubAH (s : State) : Result := binaryOp8 1 (.reg .a) (.reg .h) (aluCombine .sub) s

/-- `SUB A,L`, 0x95 (R132). -/
def execSubAL (s : State) : Result := binaryOp8 1 (.reg .a) (.reg .l) (aluCombine .sub) s

/-- `SUB A,A`, 0x97 (R132). -/
def execSubAA (s : State) : Result := binaryOp8 1 (.reg .a) (.reg .a) (aluCombine .sub) s

/-- `SUB A,(HL)`, 0x96 (R133). -/
def execSubAIndHl (s : State) : Result := binaryOp8 1 (.reg .a) (.ind (.reg .hl)) (aluCombine .sub) s

/-- `SUB A,n8`, 0xD6 (R134). -/
def execSubAN8 (n : Byte) (s : State) : Result := binaryOp8 2 (.reg .a) (.imm n) (aluCombine .sub) s

/-- `SBC A,B`, 0x98 (R135). -/
def execSbcAB (s : State) : Result := binaryOp8 1 (.reg .a) (.reg .b) (aluCombine .sbc) s

/-- `SBC A,C`, 0x99 (R135). -/
def execSbcAC (s : State) : Result := binaryOp8 1 (.reg .a) (.reg .c) (aluCombine .sbc) s

/-- `SBC A,D`, 0x9A (R135). -/
def execSbcAD (s : State) : Result := binaryOp8 1 (.reg .a) (.reg .d) (aluCombine .sbc) s

/-- `SBC A,E`, 0x9B (R135). -/
def execSbcAE (s : State) : Result := binaryOp8 1 (.reg .a) (.reg .e) (aluCombine .sbc) s

/-- `SBC A,H`, 0x9C (R135). -/
def execSbcAH (s : State) : Result := binaryOp8 1 (.reg .a) (.reg .h) (aluCombine .sbc) s

/-- `SBC A,L`, 0x9D (R135). -/
def execSbcAL (s : State) : Result := binaryOp8 1 (.reg .a) (.reg .l) (aluCombine .sbc) s

/-- `SBC A,A`, 0x9F (R135). -/
def execSbcAA (s : State) : Result := binaryOp8 1 (.reg .a) (.reg .a) (aluCombine .sbc) s

/-- `SBC A,(HL)`, 0x9E (R136). -/
def execSbcAIndHl (s : State) : Result := binaryOp8 1 (.reg .a) (.ind (.reg .hl)) (aluCombine .sbc) s

/-- `SBC A,n8`, 0xDE (R137). -/
def execSbcAN8 (n : Byte) (s : State) : Result := binaryOp8 2 (.reg .a) (.imm n) (aluCombine .sbc) s

/-- `AND A,B`, 0xA0 (R138). -/
def execAndAB (s : State) : Result := binaryOp8 1 (.reg .a) (.reg .b) (aluCombine .and) s

/-- `AND A,C`, 0xA1 (R138). -/
def execAndAC (s : State) : Result := binaryOp8 1 (.reg .a) (.reg .c) (aluCombine .and) s

/-- `AND A,D`, 0xA2 (R138). -/
def execAndAD (s : State) : Result := binaryOp8 1 (.reg .a) (.reg .d) (aluCombine .and) s

/-- `AND A,E`, 0xA3 (R138). -/
def execAndAE (s : State) : Result := binaryOp8 1 (.reg .a) (.reg .e) (aluCombine .and) s

/-- `AND A,H`, 0xA4 (R138). -/
def execAndAH (s : State) : Result := binaryOp8 1 (.reg .a) (.reg .h) (aluCombine .and) s

/-- `AND A,L`, 0xA5 (R138). -/
def execAndAL (s : State) : Result := binaryOp8 1 (.reg .a) (.reg .l) (aluCombine .and) s

/-- `AND A,A`, 0xA7 (R138). -/
def execAndAA (s : State) : Result := binaryOp8 1 (.reg .a) (.reg .a) (aluCombine .and) s

/-- `AND A,(HL)`, 0xA6 (R139). -/
def execAndAIndHl (s : State) : Result := binaryOp8 1 (.reg .a) (.ind (.reg .hl)) (aluCombine .and) s

/-- `AND A,n8`, 0xE6 (R140). -/
def execAndAN8 (n : Byte) (s : State) : Result := binaryOp8 2 (.reg .a) (.imm n) (aluCombine .and) s

/-- `XOR A,B`, 0xA8 (R141). -/
def execXorAB (s : State) : Result := binaryOp8 1 (.reg .a) (.reg .b) (aluCombine .xor) s

/-- `XOR A,C`, 0xA9 (R141). -/
def execXorAC (s : State) : Result := binaryOp8 1 (.reg .a) (.reg .c) (aluCombine .xor) s

/-- `XOR A,D`, 0xAA (R141). -/
def execXorAD (s : State) : Result := binaryOp8 1 (.reg .a) (.reg .d) (aluCombine .xor) s

/-- `XOR A,E`, 0xAB (R141). -/
def execXorAE (s : State) : Result := binaryOp8 1 (.reg .a) (.reg .e) (aluCombine .xor) s

/-- `XOR A,H`, 0xAC (R141). -/
def execXorAH (s : State) : Result := binaryOp8 1 (.reg .a) (.reg .h) (aluCombine .xor) s

/-- `XOR A,L`, 0xAD (R141). -/
def execXorAL (s : State) : Result := binaryOp8 1 (.reg .a) (.reg .l) (aluCombine .xor) s

/-- `XOR A,A`, 0xAF (R141). -/
def execXorAA (s : State) : Result := binaryOp8 1 (.reg .a) (.reg .a) (aluCombine .xor) s

/-- `XOR A,(HL)`, 0xAE (R142). -/
def execXorAIndHl (s : State) : Result := binaryOp8 1 (.reg .a) (.ind (.reg .hl)) (aluCombine .xor) s

/-- `XOR A,n8`, 0xEE (R143). -/
def execXorAN8 (n : Byte) (s : State) : Result := binaryOp8 2 (.reg .a) (.imm n) (aluCombine .xor) s

/-- `OR A,B`, 0xB0 (R144). -/
def execOrAB (s : State) : Result := binaryOp8 1 (.reg .a) (.reg .b) (aluCombine .or) s

/-- `OR A,C`, 0xB1 (R144). -/
def execOrAC (s : State) : Result := binaryOp8 1 (.reg .a) (.reg .c) (aluCombine .or) s

/-- `OR A,D`, 0xB2 (R144). -/
def execOrAD (s : State) : Result := binaryOp8 1 (.reg .a) (.reg .d) (aluCombine .or) s

/-- `OR A,E`, 0xB3 (R144). -/
def execOrAE (s : State) : Result := binaryOp8 1 (.reg .a) (.reg .e) (aluCombine .or) s

/-- `OR A,H`, 0xB4 (R144). -/
def execOrAH (s : State) : Result := binaryOp8 1 (.reg .a) (.reg .h) (aluCombine .or) s

/-- `OR A,L`, 0xB5 (R144). -/
def execOrAL (s : State) : Result := binaryOp8 1 (.reg .a) (.reg .l) (aluCombine .or) s

/-- `OR A,A`, 0xB7 (R144). -/
def execOrAA (s : State) : Result := binaryOp8 1 (.reg .a) (.reg .a) (aluCombine .or) s

/-- `OR A,(HL)`, 0xB6 (R145). -/
def execOrAIndHl (s : State) : Result := binaryOp8 1 (.reg .a) (.ind (.reg .hl)) (aluCombine .or) s

/-- `OR A,n8`, 0xF6 (R146). -/
def execOrAN8 (n : Byte) (s : State) : Result := binaryOp8 2 (.reg .a) (.imm n) (aluCombine .or) s

/-- `CP A,B`, 0xB8 (R147). -/
def execCpAB (s : State) : Result := binaryOp8 1 (.noWrite (.reg .a)) (.reg .b) (aluCombine .cp) s

/-- `CP A,C`, 0xB9 (R147). -/
def execCpAC (s : State) : Result := binaryOp8 1 (.noWrite (.reg .a)) (.reg .c) (aluCombine .cp) s

/-- `CP A,D`, 0xBA (R147). -/
def execCpAD (s : State) : Result := binaryOp8 1 (.noWrite (.reg .a)) (.reg .d) (aluCombine .cp) s

/-- `CP A,E`, 0xBB (R147). -/
def execCpAE (s : State) : Result := binaryOp8 1 (.noWrite (.reg .a)) (.reg .e) (aluCombine .cp) s

/-- `CP A,H`, 0xBC (R147). -/
def execCpAH (s : State) : Result := binaryOp8 1 (.noWrite (.reg .a)) (.reg .h) (aluCombine .cp) s

/-- `CP A,L`, 0xBD (R147). -/
def execCpAL (s : State) : Result := binaryOp8 1 (.noWrite (.reg .a)) (.reg .l) (aluCombine .cp) s

/-- `CP A,A`, 0xBF (R147). -/
def execCpAA (s : State) : Result := binaryOp8 1 (.noWrite (.reg .a)) (.reg .a) (aluCombine .cp) s

/-- `CP A,(HL)`, 0xBE (R148). -/
def execCpAIndHl (s : State) : Result :=
  binaryOp8 1 (.noWrite (.reg .a)) (.ind (.reg .hl)) (aluCombine .cp) s

/-- `CP A,n8`, 0xFE (R149). -/
def execCpAN8 (n : Byte) (s : State) : Result :=
  binaryOp8 2 (.noWrite (.reg .a)) (.imm n) (aluCombine .cp) s

/-- `INC B`, 0x04 (R150). -/
def execIncB (s : State) : Result := binaryOp8 1 (.reg .b) (.const 1) incCombine s

/-- `INC C`, 0x0C (R150). -/
def execIncC (s : State) : Result := binaryOp8 1 (.reg .c) (.const 1) incCombine s

/-- `INC D`, 0x14 (R150). -/
def execIncD (s : State) : Result := binaryOp8 1 (.reg .d) (.const 1) incCombine s

/-- `INC E`, 0x1C (R150). -/
def execIncE (s : State) : Result := binaryOp8 1 (.reg .e) (.const 1) incCombine s

/-- `INC H`, 0x24 (R150). -/
def execIncH (s : State) : Result := binaryOp8 1 (.reg .h) (.const 1) incCombine s

/-- `INC L`, 0x2C (R150). -/
def execIncL (s : State) : Result := binaryOp8 1 (.reg .l) (.const 1) incCombine s

/-- `INC A`, 0x3C (R150). -/
def execIncA (s : State) : Result := binaryOp8 1 (.reg .a) (.const 1) incCombine s

/-- `INC (HL)`, 0x34 (R151). -/
def execIncIndHl (s : State) : Result := binaryOp8 1 indHl (.const 1) incCombine s

/-- `DEC B`, 0x05 (R152). -/
def execDecB (s : State) : Result := binaryOp8 1 (.reg .b) (.const 1) decCombine s

/-- `DEC C`, 0x0D (R152). -/
def execDecC (s : State) : Result := binaryOp8 1 (.reg .c) (.const 1) decCombine s

/-- `DEC D`, 0x15 (R152). -/
def execDecD (s : State) : Result := binaryOp8 1 (.reg .d) (.const 1) decCombine s

/-- `DEC E`, 0x1D (R152). -/
def execDecE (s : State) : Result := binaryOp8 1 (.reg .e) (.const 1) decCombine s

/-- `DEC H`, 0x25 (R152). -/
def execDecH (s : State) : Result := binaryOp8 1 (.reg .h) (.const 1) decCombine s

/-- `DEC L`, 0x2D (R152). -/
def execDecL (s : State) : Result := binaryOp8 1 (.reg .l) (.const 1) decCombine s

/-- `DEC A`, 0x3D (R152). -/
def execDecA (s : State) : Result := binaryOp8 1 (.reg .a) (.const 1) decCombine s

/-- `DEC (HL)`, 0x35 (R153). -/
def execDecIndHl (s : State) : Result := binaryOp8 1 indHl (.const 1) decCombine s

/-- `DAA`, 0x27 (R154). -/
def execDaa (s : State) : Result := modify8 1 (.reg .a) daaAdjust s

/-- `CPL`, 0x2F (R155). -/
def execCpl (s : State) : Result := modify8 1 (.reg .a) (fun v f => (~~~v, cplFlags f)) s

/-- `SCF`, 0x37 (R156). -/
def execScf (s : State) : Result := modifyF 1 scfFlags s

/-- `CCF`, 0x3F (R157). -/
def execCcf (s : State) : Result := modifyF 1 ccfFlags s

end Sys2Proof.Machine
end

