-- ==== Sys2Proof/Machine/Control.lean ====
section
/-! DEFINITION. Jumps, calls, returns and restarts (45_control R189 to R199).
Each meaning is one line over the shared operations. -/

namespace Sys2Proof.Machine

/-- `JP n16`, 0xC3 (R189). -/
def execJpN16 (w : Word) (s : State) : Result := branch w s

/-- `JP HL`, 0xE9 (R190). -/
def execJpHl (s : State) : Result := branch (s.get16 .hl) s

/-- `JP NZ,n16`, 0xC2 (R191). -/
def execJpNzN16 (w : Word) (s : State) : Result := jumpIf .nz 3 w s

/-- `JP Z,n16`, 0xCA (R191). -/
def execJpZN16 (w : Word) (s : State) : Result := jumpIf .z 3 w s

/-- `JP NC,n16`, 0xD2 (R191). -/
def execJpNcN16 (w : Word) (s : State) : Result := jumpIf .nc 3 w s

/-- `JP C,n16`, 0xDA (R191). -/
def execJpCN16 (w : Word) (s : State) : Result := jumpIf .c 3 w s

/-- `JR e8`, 0x18 (R192). -/
def execJrE8 (e : Byte) (s : State) : Result := branch (relativeTarget e s) s

/-- `JR NZ,e8`, 0x20 (R193). -/
def execJrNzE8 (e : Byte) (s : State) : Result := jumpIf .nz 2 (relativeTarget e s) s

/-- `JR Z,e8`, 0x28 (R193). -/
def execJrZE8 (e : Byte) (s : State) : Result := jumpIf .z 2 (relativeTarget e s) s

/-- `JR NC,e8`, 0x30 (R193). -/
def execJrNcE8 (e : Byte) (s : State) : Result := jumpIf .nc 2 (relativeTarget e s) s

/-- `JR C,e8`, 0x38 (R193). -/
def execJrCE8 (e : Byte) (s : State) : Result := jumpIf .c 2 (relativeTarget e s) s

/-- `CALL n16`, 0xCD (R194). -/
def execCallN16 (w : Word) (s : State) : Result := callTo 3 w s

/-- `CALL NZ,n16`, 0xC4 (R195). -/
def execCallNzN16 (w : Word) (s : State) : Result := callIf .nz 3 w s

/-- `CALL Z,n16`, 0xCC (R195). -/
def execCallZN16 (w : Word) (s : State) : Result := callIf .z 3 w s

/-- `CALL NC,n16`, 0xD4 (R195). -/
def execCallNcN16 (w : Word) (s : State) : Result := callIf .nc 3 w s

/-- `CALL C,n16`, 0xDC (R195). -/
def execCallCN16 (w : Word) (s : State) : Result := callIf .c 3 w s

/-- `RET`, 0xC9 (R196). -/
def execRet (s : State) : Result := returnPop s

/-- `RET NZ`, 0xC0 (R197). -/
def execRetNz (s : State) : Result := returnIf .nz 1 s

/-- `RET Z`, 0xC8 (R197). -/
def execRetZ (s : State) : Result := returnIf .z 1 s

/-- `RET NC`, 0xD0 (R197). -/
def execRetNc (s : State) : Result := returnIf .nc 1 s

/-- `RET C`, 0xD8 (R197). -/
def execRetC (s : State) : Result := returnIf .c 1 s

/-- `RETI`, 0xD9 (R198). -/
def execReti (s : State) : Result := returnPop s

/-- `RST 0x00`, 0xC7 (R199). -/
def execRst00 (s : State) : Result := callTo 1 0x0000 s

/-- `RST 0x08`, 0xCF (R199). -/
def execRst08 (s : State) : Result := callTo 1 0x0008 s

/-- `RST 0x10`, 0xD7 (R199). -/
def execRst10 (s : State) : Result := callTo 1 0x0010 s

/-- `RST 0x18`, 0xDF (R199). -/
def execRst18 (s : State) : Result := callTo 1 0x0018 s

/-- `RST 0x20`, 0xE7 (R199). -/
def execRst20 (s : State) : Result := callTo 1 0x0020 s

/-- `RST 0x28`, 0xEF (R199). -/
def execRst28 (s : State) : Result := callTo 1 0x0028 s

/-- `RST 0x30`, 0xF7 (R199). -/
def execRst30 (s : State) : Result := callTo 1 0x0030 s

/-- `RST 0x38`, 0xFF (R199). -/
def execRst38 (s : State) : Result := callTo 1 0x0038 s

end Sys2Proof.Machine
end

