-- ==== Sys2Proof/Machine/Load16.lean ====
section
/-! DEFINITION. The 16-bit loads, PUSH and POP (41_load16_stack R116 to R121).
Each meaning is one line over the shared operations. -/

namespace Sys2Proof.Machine

/-- `LD BC,n16`, 0x01 (R116). -/
def execLdBcN16 (w : Word) (s : State) : Result := load16 3 (.reg .bc) (.imm w) s

/-- `LD DE,n16`, 0x11 (R116). -/
def execLdDeN16 (w : Word) (s : State) : Result := load16 3 (.reg .de) (.imm w) s

/-- `LD HL,n16`, 0x21 (R116). -/
def execLdHlN16 (w : Word) (s : State) : Result := load16 3 (.reg .hl) (.imm w) s

/-- `LD SP,n16`, 0x31 (R116). -/
def execLdSpN16 (w : Word) (s : State) : Result := load16 3 (.reg .sp) (.imm w) s

/-- `LD (n16),SP`, 0x08 (R117). -/
def execLdIndN16Sp (w : Word) (s : State) : Result := load16 3 (.ind (.imm w)) (.reg .sp) s

/-- `LD SP,HL`, 0xF9 (R118). -/
def execLdSpHl (s : State) : Result := load16 1 (.reg .sp) (.reg .hl) s

/-- `LD HL,SP+e8`, 0xF8 (R119). -/
def execLdHlSpE8 (e : Byte) (s : State) : Result :=
  let v := read16 (.offsetSum (.reg .sp) (.imm e)) s
  advance 2 ((write16 (.reg .hl) v.1 v.2).setF (speLoadFlags s.config s.sp e s.f))

/-- `PUSH BC`, 0xC5 (R120). -/
def execPushBc (s : State) : Result := pushReg 1 .bc s

/-- `PUSH DE`, 0xD5 (R120). -/
def execPushDe (s : State) : Result := pushReg 1 .de s

/-- `PUSH HL`, 0xE5 (R120). -/
def execPushHl (s : State) : Result := pushReg 1 .hl s

/-- `PUSH AF`, 0xF5 (R120). -/
def execPushAf (s : State) : Result := pushReg 1 .af s

/-- `POP BC`, 0xC1 (R121). -/
def execPopBc (s : State) : Result := popReg 1 .bc s

/-- `POP DE`, 0xD1 (R121). -/
def execPopDe (s : State) : Result := popReg 1 .de s

/-- `POP HL`, 0xE1 (R121). -/
def execPopHl (s : State) : Result := popReg 1 .hl s

/-- `POP AF`, 0xF1 (R121). -/
def execPopAf (s : State) : Result := popReg 1 .af s

end Sys2Proof.Machine
end

