-- ==== Sys2Proof/Machine/Load8.lean ====
section
/-! DEFINITION. The 8-bit loads (40_load8 R95 to R113): each is `Load(dest, src)` over operand descriptors and writes no
flag.
Each meaning is one line over the shared operations. -/

namespace Sys2Proof.Machine

/-- `LD B,B`, 0x40 (R95). -/
def execLdBB (s : State) : Result := load8 1 (.reg .b) (.reg .b) s

/-- `LD B,C`, 0x41 (R95). -/
def execLdBC (s : State) : Result := load8 1 (.reg .b) (.reg .c) s

/-- `LD B,D`, 0x42 (R95). -/
def execLdBD (s : State) : Result := load8 1 (.reg .b) (.reg .d) s

/-- `LD B,E`, 0x43 (R95). -/
def execLdBE (s : State) : Result := load8 1 (.reg .b) (.reg .e) s

/-- `LD B,H`, 0x44 (R95). -/
def execLdBH (s : State) : Result := load8 1 (.reg .b) (.reg .h) s

/-- `LD B,L`, 0x45 (R95). -/
def execLdBL (s : State) : Result := load8 1 (.reg .b) (.reg .l) s

/-- `LD B,A`, 0x47 (R95). -/
def execLdBA (s : State) : Result := load8 1 (.reg .b) (.reg .a) s

/-- `LD C,B`, 0x48 (R95). -/
def execLdCB (s : State) : Result := load8 1 (.reg .c) (.reg .b) s

/-- `LD C,C`, 0x49 (R95). -/
def execLdCC (s : State) : Result := load8 1 (.reg .c) (.reg .c) s

/-- `LD C,D`, 0x4A (R95). -/
def execLdCD (s : State) : Result := load8 1 (.reg .c) (.reg .d) s

/-- `LD C,E`, 0x4B (R95). -/
def execLdCE (s : State) : Result := load8 1 (.reg .c) (.reg .e) s

/-- `LD C,H`, 0x4C (R95). -/
def execLdCH (s : State) : Result := load8 1 (.reg .c) (.reg .h) s

/-- `LD C,L`, 0x4D (R95). -/
def execLdCL (s : State) : Result := load8 1 (.reg .c) (.reg .l) s

/-- `LD C,A`, 0x4F (R95). -/
def execLdCA (s : State) : Result := load8 1 (.reg .c) (.reg .a) s

/-- `LD D,B`, 0x50 (R95). -/
def execLdDB (s : State) : Result := load8 1 (.reg .d) (.reg .b) s

/-- `LD D,C`, 0x51 (R95). -/
def execLdDC (s : State) : Result := load8 1 (.reg .d) (.reg .c) s

/-- `LD D,D`, 0x52 (R95). -/
def execLdDD (s : State) : Result := load8 1 (.reg .d) (.reg .d) s

/-- `LD D,E`, 0x53 (R95). -/
def execLdDE (s : State) : Result := load8 1 (.reg .d) (.reg .e) s

/-- `LD D,H`, 0x54 (R95). -/
def execLdDH (s : State) : Result := load8 1 (.reg .d) (.reg .h) s

/-- `LD D,L`, 0x55 (R95). -/
def execLdDL (s : State) : Result := load8 1 (.reg .d) (.reg .l) s

/-- `LD D,A`, 0x57 (R95). -/
def execLdDA (s : State) : Result := load8 1 (.reg .d) (.reg .a) s

/-- `LD E,B`, 0x58 (R95). -/
def execLdEB (s : State) : Result := load8 1 (.reg .e) (.reg .b) s

/-- `LD E,C`, 0x59 (R95). -/
def execLdEC (s : State) : Result := load8 1 (.reg .e) (.reg .c) s

/-- `LD E,D`, 0x5A (R95). -/
def execLdED (s : State) : Result := load8 1 (.reg .e) (.reg .d) s

/-- `LD E,E`, 0x5B (R95). -/
def execLdEE (s : State) : Result := load8 1 (.reg .e) (.reg .e) s

/-- `LD E,H`, 0x5C (R95). -/
def execLdEH (s : State) : Result := load8 1 (.reg .e) (.reg .h) s

/-- `LD E,L`, 0x5D (R95). -/
def execLdEL (s : State) : Result := load8 1 (.reg .e) (.reg .l) s

/-- `LD E,A`, 0x5F (R95). -/
def execLdEA (s : State) : Result := load8 1 (.reg .e) (.reg .a) s

/-- `LD H,B`, 0x60 (R95). -/
def execLdHB (s : State) : Result := load8 1 (.reg .h) (.reg .b) s

/-- `LD H,C`, 0x61 (R95). -/
def execLdHC (s : State) : Result := load8 1 (.reg .h) (.reg .c) s

/-- `LD H,D`, 0x62 (R95). -/
def execLdHD (s : State) : Result := load8 1 (.reg .h) (.reg .d) s

/-- `LD H,E`, 0x63 (R95). -/
def execLdHE (s : State) : Result := load8 1 (.reg .h) (.reg .e) s

/-- `LD H,H`, 0x64 (R95). -/
def execLdHH (s : State) : Result := load8 1 (.reg .h) (.reg .h) s

/-- `LD H,L`, 0x65 (R95). -/
def execLdHL (s : State) : Result := load8 1 (.reg .h) (.reg .l) s

/-- `LD H,A`, 0x67 (R95). -/
def execLdHA (s : State) : Result := load8 1 (.reg .h) (.reg .a) s

/-- `LD L,B`, 0x68 (R95). -/
def execLdLB (s : State) : Result := load8 1 (.reg .l) (.reg .b) s

/-- `LD L,C`, 0x69 (R95). -/
def execLdLC (s : State) : Result := load8 1 (.reg .l) (.reg .c) s

/-- `LD L,D`, 0x6A (R95). -/
def execLdLD (s : State) : Result := load8 1 (.reg .l) (.reg .d) s

/-- `LD L,E`, 0x6B (R95). -/
def execLdLE (s : State) : Result := load8 1 (.reg .l) (.reg .e) s

/-- `LD L,H`, 0x6C (R95). -/
def execLdLH (s : State) : Result := load8 1 (.reg .l) (.reg .h) s

/-- `LD L,L`, 0x6D (R95). -/
def execLdLL (s : State) : Result := load8 1 (.reg .l) (.reg .l) s

/-- `LD L,A`, 0x6F (R95). -/
def execLdLA (s : State) : Result := load8 1 (.reg .l) (.reg .a) s

/-- `LD A,B`, 0x78 (R95). -/
def execLdAB (s : State) : Result := load8 1 (.reg .a) (.reg .b) s

/-- `LD A,C`, 0x79 (R95). -/
def execLdAC (s : State) : Result := load8 1 (.reg .a) (.reg .c) s

/-- `LD A,D`, 0x7A (R95). -/
def execLdAD (s : State) : Result := load8 1 (.reg .a) (.reg .d) s

/-- `LD A,E`, 0x7B (R95). -/
def execLdAE (s : State) : Result := load8 1 (.reg .a) (.reg .e) s

/-- `LD A,H`, 0x7C (R95). -/
def execLdAH (s : State) : Result := load8 1 (.reg .a) (.reg .h) s

/-- `LD A,L`, 0x7D (R95). -/
def execLdAL (s : State) : Result := load8 1 (.reg .a) (.reg .l) s

/-- `LD A,A`, 0x7F (R95). -/
def execLdAA (s : State) : Result := load8 1 (.reg .a) (.reg .a) s

/-- `LD B,n8`, 0x06 (R96). -/
def execLdBN8 (n : Byte) (s : State) : Result := load8 2 (.reg .b) (.imm n) s

/-- `LD C,n8`, 0x0E (R96). -/
def execLdCN8 (n : Byte) (s : State) : Result := load8 2 (.reg .c) (.imm n) s

/-- `LD D,n8`, 0x16 (R96). -/
def execLdDN8 (n : Byte) (s : State) : Result := load8 2 (.reg .d) (.imm n) s

/-- `LD E,n8`, 0x1E (R96). -/
def execLdEN8 (n : Byte) (s : State) : Result := load8 2 (.reg .e) (.imm n) s

/-- `LD H,n8`, 0x26 (R96). -/
def execLdHN8 (n : Byte) (s : State) : Result := load8 2 (.reg .h) (.imm n) s

/-- `LD L,n8`, 0x2E (R96). -/
def execLdLN8 (n : Byte) (s : State) : Result := load8 2 (.reg .l) (.imm n) s

/-- `LD A,n8`, 0x3E (R96). -/
def execLdAN8 (n : Byte) (s : State) : Result := load8 2 (.reg .a) (.imm n) s

/-- `LD B,(HL)`, 0x46 (R97). -/
def execLdBIndHl (s : State) : Result := load8 1 (.reg .b) (.ind (.reg .hl)) s

/-- `LD C,(HL)`, 0x4E (R97). -/
def execLdCIndHl (s : State) : Result := load8 1 (.reg .c) (.ind (.reg .hl)) s

/-- `LD D,(HL)`, 0x56 (R97). -/
def execLdDIndHl (s : State) : Result := load8 1 (.reg .d) (.ind (.reg .hl)) s

/-- `LD E,(HL)`, 0x5E (R97). -/
def execLdEIndHl (s : State) : Result := load8 1 (.reg .e) (.ind (.reg .hl)) s

/-- `LD H,(HL)`, 0x66 (R97). -/
def execLdHIndHl (s : State) : Result := load8 1 (.reg .h) (.ind (.reg .hl)) s

/-- `LD L,(HL)`, 0x6E (R97). -/
def execLdLIndHl (s : State) : Result := load8 1 (.reg .l) (.ind (.reg .hl)) s

/-- `LD A,(HL)`, 0x7E (R97). -/
def execLdAIndHl (s : State) : Result := load8 1 (.reg .a) (.ind (.reg .hl)) s

/-- `LD (HL),B`, 0x70 (R98). -/
def execLdIndHlB (s : State) : Result := load8 1 indHl (.reg .b) s

/-- `LD (HL),C`, 0x71 (R98). -/
def execLdIndHlC (s : State) : Result := load8 1 indHl (.reg .c) s

/-- `LD (HL),D`, 0x72 (R98). -/
def execLdIndHlD (s : State) : Result := load8 1 indHl (.reg .d) s

/-- `LD (HL),E`, 0x73 (R98). -/
def execLdIndHlE (s : State) : Result := load8 1 indHl (.reg .e) s

/-- `LD (HL),H`, 0x74 (R98). -/
def execLdIndHlH (s : State) : Result := load8 1 indHl (.reg .h) s

/-- `LD (HL),L`, 0x75 (R98). -/
def execLdIndHlL (s : State) : Result := load8 1 indHl (.reg .l) s

/-- `LD (HL),A`, 0x77 (R98). -/
def execLdIndHlA (s : State) : Result := load8 1 indHl (.reg .a) s

/-- `LD (HL),n8`, 0x36 (R99). -/
def execLdIndHlN8 (n : Byte) (s : State) : Result := load8 2 indHl (.imm n) s

/-- `LD A,(BC)`, 0x0A (R100). -/
def execLdAIndBc (s : State) : Result := load8 1 (.reg .a) (.ind (.reg .bc)) s

/-- `LD A,(DE)`, 0x1A (R101). -/
def execLdAIndDe (s : State) : Result := load8 1 (.reg .a) (.ind (.reg .de)) s

/-- `LD (BC),A`, 0x02 (R102). -/
def execLdIndBcA (s : State) : Result := load8 1 (.ind (.reg .bc)) (.reg .a) s

/-- `LD (DE),A`, 0x12 (R103). -/
def execLdIndDeA (s : State) : Result := load8 1 (.ind (.reg .de)) (.reg .a) s

/-- `LD A,(n16)`, 0xFA (R104). -/
def execLdAIndN16 (w : Word) (s : State) : Result := load8 3 (.reg .a) (.ind (.imm w)) s

/-- `LD (n16),A`, 0xEA (R105). -/
def execLdIndN16A (w : Word) (s : State) : Result := load8 3 (.ind (.imm w)) (.reg .a) s

/-- `LDH A,(C)`, 0xF2 (R106). -/
def execLdhAIndC (s : State) : Result := load8 1 (.reg .a) (.indHigh (.reg .c)) s

/-- `LDH (C),A`, 0xE2 (R107). -/
def execLdhIndCA (s : State) : Result := load8 1 (.indHigh (.reg .c)) (.reg .a) s

/-- `LDH A,(n8)`, 0xF0 (R108). -/
def execLdhAIndN8 (n : Byte) (s : State) : Result := load8 2 (.reg .a) (.indHigh (.imm n)) s

/-- `LDH (n8),A`, 0xE0 (R109). -/
def execLdhIndN8A (n : Byte) (s : State) : Result := load8 2 (.indHigh (.imm n)) (.reg .a) s

/-- `LD A,(HL+)`, 0x2A (R110). -/
def execLdAHli (s : State) : Result := load8 1 (.reg .a) (.ind (.postInc .hl)) s

/-- `LD A,(HL-)`, 0x3A (R111). -/
def execLdAHld (s : State) : Result := load8 1 (.reg .a) (.ind (.postDec .hl)) s

/-- `LD (HL+),A`, 0x22 (R112). -/
def execLdHliA (s : State) : Result := load8 1 (.ind (.postInc .hl)) (.reg .a) s

/-- `LD (HL-),A`, 0x32 (R113). -/
def execLdHldA (s : State) : Result := load8 1 (.ind (.postDec .hl)) (.reg .a) s

end Sys2Proof.Machine
end

