-- ==== Sys2Proof/Machine/Misc.lean ====
section
/-! DEFINITION. NOP, HALT, STOP, DI and EI (46_misc R200 to R204).
Each meaning is one line over the shared operations. -/

namespace Sys2Proof.Machine

/-- `NOP`, 0x00 (R200). -/
def execNop (s : State) : Result := advance 1 s

/-- `HALT`, 0x76 (R201). -/
def execHalt (s : State) : Result := raiseError .unimplementedInstruction (.primary 0x76) s

/-- `STOP`, 0x10 (R202). -/
def execStop (s : State) : Result := raiseError .unimplementedInstruction (.primary 0x10) s

/-- `DI`, 0xF3 (R203). -/
def execDi (s : State) : Result := advance 1 (setInterrupt false s)

/-- `EI`, 0xFB (R204). -/
def execEi (s : State) : Result := advance 1 (setInterrupt true s)

end Sys2Proof.Machine
end

