-- ==== Sys2Proof/Machine/RotateBit.lean ====
section
/-! DEFINITION. Rotates, shifts and bit operations (44_rotate_shift_bit R162 to R187).
Each meaning is one line over the shared operations. -/

namespace Sys2Proof.Machine

/-- `RLCA`, 0x07 (R162). -/
def execRlca (s : State) : Result := modify8 1 (.reg .a) (rotAModify .rlc) s

/-- `RRCA`, 0x0F (R163). -/
def execRrca (s : State) : Result := modify8 1 (.reg .a) (rotAModify .rrc) s

/-- `RLA`, 0x17 (R164). -/
def execRla (s : State) : Result := modify8 1 (.reg .a) (rotAModify .rl) s

/-- `RRA`, 0x1F (R165). -/
def execRra (s : State) : Result := modify8 1 (.reg .a) (rotAModify .rr) s

/-- `RLC B`, CB 0x00 (R166). -/
def execRlcB (s : State) : Result := modify8 2 (.reg .b) (rotModify .rlc) s

/-- `RLC C`, CB 0x01 (R166). -/
def execRlcC (s : State) : Result := modify8 2 (.reg .c) (rotModify .rlc) s

/-- `RLC D`, CB 0x02 (R166). -/
def execRlcD (s : State) : Result := modify8 2 (.reg .d) (rotModify .rlc) s

/-- `RLC E`, CB 0x03 (R166). -/
def execRlcE (s : State) : Result := modify8 2 (.reg .e) (rotModify .rlc) s

/-- `RLC H`, CB 0x04 (R166). -/
def execRlcH (s : State) : Result := modify8 2 (.reg .h) (rotModify .rlc) s

/-- `RLC L`, CB 0x05 (R166). -/
def execRlcL (s : State) : Result := modify8 2 (.reg .l) (rotModify .rlc) s

/-- `RLC A`, CB 0x07 (R166). -/
def execRlcA (s : State) : Result := modify8 2 (.reg .a) (rotModify .rlc) s

/-- `RLC (HL)`, CB 0x06 (R167). -/
def execRlcIndHl (s : State) : Result := modify8 2 indHl (rotModify .rlc) s

/-- `RRC B`, CB 0x08 (R168). -/
def execRrcB (s : State) : Result := modify8 2 (.reg .b) (rotModify .rrc) s

/-- `RRC C`, CB 0x09 (R168). -/
def execRrcC (s : State) : Result := modify8 2 (.reg .c) (rotModify .rrc) s

/-- `RRC D`, CB 0x0A (R168). -/
def execRrcD (s : State) : Result := modify8 2 (.reg .d) (rotModify .rrc) s

/-- `RRC E`, CB 0x0B (R168). -/
def execRrcE (s : State) : Result := modify8 2 (.reg .e) (rotModify .rrc) s

/-- `RRC H`, CB 0x0C (R168). -/
def execRrcH (s : State) : Result := modify8 2 (.reg .h) (rotModify .rrc) s

/-- `RRC L`, CB 0x0D (R168). -/
def execRrcL (s : State) : Result := modify8 2 (.reg .l) (rotModify .rrc) s

/-- `RRC A`, CB 0x0F (R168). -/
def execRrcA (s : State) : Result := modify8 2 (.reg .a) (rotModify .rrc) s

/-- `RRC (HL)`, CB 0x0E (R169). -/
def execRrcIndHl (s : State) : Result := modify8 2 indHl (rotModify .rrc) s

/-- `RL B`, CB 0x10 (R170). -/
def execRlB (s : State) : Result := modify8 2 (.reg .b) (rotModify .rl) s

/-- `RL C`, CB 0x11 (R170). -/
def execRlC (s : State) : Result := modify8 2 (.reg .c) (rotModify .rl) s

/-- `RL D`, CB 0x12 (R170). -/
def execRlD (s : State) : Result := modify8 2 (.reg .d) (rotModify .rl) s

/-- `RL E`, CB 0x13 (R170). -/
def execRlE (s : State) : Result := modify8 2 (.reg .e) (rotModify .rl) s

/-- `RL H`, CB 0x14 (R170). -/
def execRlH (s : State) : Result := modify8 2 (.reg .h) (rotModify .rl) s

/-- `RL L`, CB 0x15 (R170). -/
def execRlL (s : State) : Result := modify8 2 (.reg .l) (rotModify .rl) s

/-- `RL A`, CB 0x17 (R170). -/
def execRlA (s : State) : Result := modify8 2 (.reg .a) (rotModify .rl) s

/-- `RL (HL)`, CB 0x16 (R171). -/
def execRlIndHl (s : State) : Result := modify8 2 indHl (rotModify .rl) s

/-- `RR B`, CB 0x18 (R172). -/
def execRrB (s : State) : Result := modify8 2 (.reg .b) (rotModify .rr) s

/-- `RR C`, CB 0x19 (R172). -/
def execRrC (s : State) : Result := modify8 2 (.reg .c) (rotModify .rr) s

/-- `RR D`, CB 0x1A (R172). -/
def execRrD (s : State) : Result := modify8 2 (.reg .d) (rotModify .rr) s

/-- `RR E`, CB 0x1B (R172). -/
def execRrE (s : State) : Result := modify8 2 (.reg .e) (rotModify .rr) s

/-- `RR H`, CB 0x1C (R172). -/
def execRrH (s : State) : Result := modify8 2 (.reg .h) (rotModify .rr) s

/-- `RR L`, CB 0x1D (R172). -/
def execRrL (s : State) : Result := modify8 2 (.reg .l) (rotModify .rr) s

/-- `RR A`, CB 0x1F (R172). -/
def execRrA (s : State) : Result := modify8 2 (.reg .a) (rotModify .rr) s

/-- `RR (HL)`, CB 0x1E (R173). -/
def execRrIndHl (s : State) : Result := modify8 2 indHl (rotModify .rr) s

/-- `SLA B`, CB 0x20 (R174). -/
def execSlaB (s : State) : Result := modify8 2 (.reg .b) (rotModify .sla) s

/-- `SLA C`, CB 0x21 (R174). -/
def execSlaC (s : State) : Result := modify8 2 (.reg .c) (rotModify .sla) s

/-- `SLA D`, CB 0x22 (R174). -/
def execSlaD (s : State) : Result := modify8 2 (.reg .d) (rotModify .sla) s

/-- `SLA E`, CB 0x23 (R174). -/
def execSlaE (s : State) : Result := modify8 2 (.reg .e) (rotModify .sla) s

/-- `SLA H`, CB 0x24 (R174). -/
def execSlaH (s : State) : Result := modify8 2 (.reg .h) (rotModify .sla) s

/-- `SLA L`, CB 0x25 (R174). -/
def execSlaL (s : State) : Result := modify8 2 (.reg .l) (rotModify .sla) s

/-- `SLA A`, CB 0x27 (R174). -/
def execSlaA (s : State) : Result := modify8 2 (.reg .a) (rotModify .sla) s

/-- `SLA (HL)`, CB 0x26 (R175). -/
def execSlaIndHl (s : State) : Result := modify8 2 indHl (rotModify .sla) s

/-- `SRA B`, CB 0x28 (R176). -/
def execSraB (s : State) : Result := modify8 2 (.reg .b) (rotModify .sra) s

/-- `SRA C`, CB 0x29 (R176). -/
def execSraC (s : State) : Result := modify8 2 (.reg .c) (rotModify .sra) s

/-- `SRA D`, CB 0x2A (R176). -/
def execSraD (s : State) : Result := modify8 2 (.reg .d) (rotModify .sra) s

/-- `SRA E`, CB 0x2B (R176). -/
def execSraE (s : State) : Result := modify8 2 (.reg .e) (rotModify .sra) s

/-- `SRA H`, CB 0x2C (R176). -/
def execSraH (s : State) : Result := modify8 2 (.reg .h) (rotModify .sra) s

/-- `SRA L`, CB 0x2D (R176). -/
def execSraL (s : State) : Result := modify8 2 (.reg .l) (rotModify .sra) s

/-- `SRA A`, CB 0x2F (R176). -/
def execSraA (s : State) : Result := modify8 2 (.reg .a) (rotModify .sra) s

/-- `SRA (HL)`, CB 0x2E (R177). -/
def execSraIndHl (s : State) : Result := modify8 2 indHl (rotModify .sra) s

/-- `SWAP B`, CB 0x30 (R178). -/
def execSwapB (s : State) : Result := modify8 2 (.reg .b) (rotModify .swap) s

/-- `SWAP C`, CB 0x31 (R178). -/
def execSwapC (s : State) : Result := modify8 2 (.reg .c) (rotModify .swap) s

/-- `SWAP D`, CB 0x32 (R178). -/
def execSwapD (s : State) : Result := modify8 2 (.reg .d) (rotModify .swap) s

/-- `SWAP E`, CB 0x33 (R178). -/
def execSwapE (s : State) : Result := modify8 2 (.reg .e) (rotModify .swap) s

/-- `SWAP H`, CB 0x34 (R178). -/
def execSwapH (s : State) : Result := modify8 2 (.reg .h) (rotModify .swap) s

/-- `SWAP L`, CB 0x35 (R178). -/
def execSwapL (s : State) : Result := modify8 2 (.reg .l) (rotModify .swap) s

/-- `SWAP A`, CB 0x37 (R178). -/
def execSwapA (s : State) : Result := modify8 2 (.reg .a) (rotModify .swap) s

/-- `SWAP (HL)`, CB 0x36 (R179). -/
def execSwapIndHl (s : State) : Result := modify8 2 indHl (rotModify .swap) s

/-- `SRL B`, CB 0x38 (R180). -/
def execSrlB (s : State) : Result := modify8 2 (.reg .b) (rotModify .srl) s

/-- `SRL C`, CB 0x39 (R180). -/
def execSrlC (s : State) : Result := modify8 2 (.reg .c) (rotModify .srl) s

/-- `SRL D`, CB 0x3A (R180). -/
def execSrlD (s : State) : Result := modify8 2 (.reg .d) (rotModify .srl) s

/-- `SRL E`, CB 0x3B (R180). -/
def execSrlE (s : State) : Result := modify8 2 (.reg .e) (rotModify .srl) s

/-- `SRL H`, CB 0x3C (R180). -/
def execSrlH (s : State) : Result := modify8 2 (.reg .h) (rotModify .srl) s

/-- `SRL L`, CB 0x3D (R180). -/
def execSrlL (s : State) : Result := modify8 2 (.reg .l) (rotModify .srl) s

/-- `SRL A`, CB 0x3F (R180). -/
def execSrlA (s : State) : Result := modify8 2 (.reg .a) (rotModify .srl) s

/-- `SRL (HL)`, CB 0x3E (R181). -/
def execSrlIndHl (s : State) : Result := modify8 2 indHl (rotModify .srl) s

/-- `BIT b,B`, CB 0x40 (R182). -/
def execBitB (b : Nat) (s : State) : Result := test8 2 (.reg .b) (bitTestFlags b) s

/-- `BIT b,C`, CB 0x41 (R182). -/
def execBitC (b : Nat) (s : State) : Result := test8 2 (.reg .c) (bitTestFlags b) s

/-- `BIT b,D`, CB 0x42 (R182). -/
def execBitD (b : Nat) (s : State) : Result := test8 2 (.reg .d) (bitTestFlags b) s

/-- `BIT b,E`, CB 0x43 (R182). -/
def execBitE (b : Nat) (s : State) : Result := test8 2 (.reg .e) (bitTestFlags b) s

/-- `BIT b,H`, CB 0x44 (R182). -/
def execBitH (b : Nat) (s : State) : Result := test8 2 (.reg .h) (bitTestFlags b) s

/-- `BIT b,L`, CB 0x45 (R182). -/
def execBitL (b : Nat) (s : State) : Result := test8 2 (.reg .l) (bitTestFlags b) s

/-- `BIT b,A`, CB 0x47 (R182). -/
def execBitA (b : Nat) (s : State) : Result := test8 2 (.reg .a) (bitTestFlags b) s

/-- `BIT b,(HL)`, CB 0x46 (R183). -/
def execBitIndHl (b : Nat) (s : State) : Result := test8 2 (.ind (.reg .hl)) (bitTestFlags b) s

/-- `RES b,B`, CB 0x80 (R184). -/
def execResB (b : Nat) (s : State) : Result := modify8 2 (.reg .b) (resModify b) s

/-- `RES b,C`, CB 0x81 (R184). -/
def execResC (b : Nat) (s : State) : Result := modify8 2 (.reg .c) (resModify b) s

/-- `RES b,D`, CB 0x82 (R184). -/
def execResD (b : Nat) (s : State) : Result := modify8 2 (.reg .d) (resModify b) s

/-- `RES b,E`, CB 0x83 (R184). -/
def execResE (b : Nat) (s : State) : Result := modify8 2 (.reg .e) (resModify b) s

/-- `RES b,H`, CB 0x84 (R184). -/
def execResH (b : Nat) (s : State) : Result := modify8 2 (.reg .h) (resModify b) s

/-- `RES b,L`, CB 0x85 (R184). -/
def execResL (b : Nat) (s : State) : Result := modify8 2 (.reg .l) (resModify b) s

/-- `RES b,A`, CB 0x87 (R184). -/
def execResA (b : Nat) (s : State) : Result := modify8 2 (.reg .a) (resModify b) s

/-- `RES b,(HL)`, CB 0x86 (R185). -/
def execResIndHl (b : Nat) (s : State) : Result := modify8 2 indHl (resModify b) s

/-- `SET b,B`, CB 0xC0 (R186). -/
def execSetB (b : Nat) (s : State) : Result := modify8 2 (.reg .b) (setModify b) s

/-- `SET b,C`, CB 0xC1 (R186). -/
def execSetC (b : Nat) (s : State) : Result := modify8 2 (.reg .c) (setModify b) s

/-- `SET b,D`, CB 0xC2 (R186). -/
def execSetD (b : Nat) (s : State) : Result := modify8 2 (.reg .d) (setModify b) s

/-- `SET b,E`, CB 0xC3 (R186). -/
def execSetE (b : Nat) (s : State) : Result := modify8 2 (.reg .e) (setModify b) s

/-- `SET b,H`, CB 0xC4 (R186). -/
def execSetH (b : Nat) (s : State) : Result := modify8 2 (.reg .h) (setModify b) s

/-- `SET b,L`, CB 0xC5 (R186). -/
def execSetL (b : Nat) (s : State) : Result := modify8 2 (.reg .l) (setModify b) s

/-- `SET b,A`, CB 0xC7 (R186). -/
def execSetA (b : Nat) (s : State) : Result := modify8 2 (.reg .a) (setModify b) s

/-- `SET b,(HL)`, CB 0xC6 (R187). -/
def execSetIndHl (b : Nat) (s : State) : Result := modify8 2 indHl (setModify b) s

end Sys2Proof.Machine
end

