-- ==== Sys2Proof/Machine/Fetch.lean ====
section
/-! DEFINITION. Fetching and dispatching one instruction (30_encoding R66 to R70, R89, R90): the opcode
bytes, the two checks, then the immediates, in the order of 20_memory R50. -/

namespace Sys2Proof.Machine

/-- What dispatch finds: an instruction, or the error it raises (30_encoding R90). -/
inductive Fetched where
  | instr (i : Instr)
  | error (kind : ErrorKind) (key : OpcodeKey)
  deriving DecidableEq, Repr

/-- The addresses of an instruction's bytes: pc0, `wrap16(pc0 + 1)`, and the second byte of the word
there (20_memory R39; 30_encoding R66, R67, R69). -/
def State.fetchAddrs (s : State) : List Nat :=
  [s.pc.toNat, (s.pc + 1).toNat, secondAddr s.config (s.pc + 1)]

/-- The bytes an instruction of up to three bytes at pc0 has. -/
def State.window (s : State) : List Byte := s.fetchAddrs.map s.peek

/-- Read the immediate of an instruction of the given length: nothing, a byte, or a word, whose bytes
stay in address order (30_encoding R66, R67). -/
def fetchImmediate (len : Nat) (s : State) : List Byte × State :=
  match len with
  | 2 =>
    let n := readU8 (s.pc + 1).toNat s
    ([n.1], n.2)
  | 3 =>
    let w := readU16 (s.pc + 1) s
    ([lo w.1, hi w.1], w.2)
  | _ => ([], s)

/-- What the fetched bytes of a mapped instruction decode to. -/
def decodeFetched (op : Byte) (rest : List Byte) : Fetched :=
  match decode (op :: rest) with
  | .ok (i, _) => .instr i
  | .error _ => .error .unmappedOpcode (.primary op)

/-- Dispatch on the escape byte: fetch op2, then check that its key is implemented (30_encoding R69, R90;
60_exceptions R207). -/
def dispatchEscape (s : State) : Fetched × State :=
  let op2 := readU8 (s.pc + 1).toNat s
  if s.config.implements (.escape op2.1) then (decodeFetched escapeByte [op2.1], op2.2)
  else (.error .unimplementedInstruction (.escape op2.1), op2.2)

/-- Dispatch on any other first byte: the unmapped check, then the implemented check, and only then the
immediates (30_encoding R90; 60_exceptions R206, R207). -/
def dispatchPrimary (op : Byte) (s : State) : Fetched × State :=
  match lengthOf op with
  | none => (.error .unmappedOpcode (.primary op), s)
  | some len =>
    if s.config.implements (.primary op) then
      let imm := fetchImmediate len s
      (decodeFetched op imm.1, imm.2)
    else (.error .unimplementedInstruction (.primary op), s)

/-- Fetch the opcode at pc0 and dispatch it (30_encoding R90). The state answered differs from the given
one only in the out-of-range events of the reads. -/
def fetch (s : State) : Fetched × State :=
  let op := readU8 s.pc.toNat s
  if op.1 = escapeByte then dispatchEscape op.2 else dispatchPrimary op.1 op.2

/-- Store bytes at the given addresses, one each, in order. -/
def storeBytes : List Nat → List Byte → State → State
  | a :: addrs, v :: bytes, s => storeBytes addrs bytes (writeU8 a v s)
  | _, _, s => s

end Sys2Proof.Machine
end

