-- ==== Sys2Proof/Machine/Step.lean ====
section
/-! DEFINITION. One step of the core, the Fetch-Execute Driver (30_encoding R90), and how an instruction
word is placed where the next step fetches it. -/

namespace Sys2Proof.Machine

/-- Run what dispatch found: an instruction's meaning, or the raise of its error (30_encoding R90). -/
def runFetched (r : Fetched × State) : Host.Outcome State Fault Refusal :=
  match r.1 with
  | .instr i => exec i r.2
  | .error kind key => raiseError kind key r.2

/-- One step. It is enabled only when `status = Running` (30_encoding R90); from `Faulted` the core is
stuck (60_exceptions R209). The step's event list starts empty (10_state R31). -/
def step (s : State) : Host.Outcome State Fault Refusal :=
  match s.status with
  | .running => runFetched (fetch (s.setLog []))
  | .faulted kind key pc0 => .fault (.stopped kind key pc0)

/-- `s` with an opcode-table word stored at PC, where the next step fetches (log entries 8 and 10): the
placing of an image by the host (70_reset_and_hazards R220). -/
def State.withFetchWord (s : State) (nbits w : Nat) : State :=
  storeBytes s.fetchAddrs (tableWordBytes nbits w) s

end Sys2Proof.Machine
end

