-- ==== Sys2Proof/Machine/Outputs.lean ====
section
/-! DEFINITION. The step's elapsed-cycle count (10_state R31), an output that is not state and that no
operation reads. PRESUMED (log entry 6): the numbers are the informational SM83 T-states of
70_reset_and_hazards R224; the spec leaves the count any value, and no statement rests on one. -/

namespace Sys2Proof.Machine

/-- Whether a conditional form takes its branch with these flags; true of every other form. -/
def formTaken (x : Form) (f : Byte) : Bool :=
  match x with
  | .jpCc cc _ => condHolds cc.cond f
  | .jrCc cc _ => condHolds cc.cond f
  | .callCc cc _ => condHolds cc.cond f
  | .retCc cc => condHolds cc.cond f
  | .ldRR _ _ | .ldRN8 _ _ | .ldRIndHl _ | .ldIndHlR _ | .ldIndHlN8 _ | .ldAIndBc | .ldAIndDe => true
  | .ldIndBcA | .ldIndDeA | .ldAIndN16 _ | .ldIndN16A _ | .ldhAIndC | .ldhIndCA | .ldhAIndN8 _ => true
  | .ldhIndN8A _ | .ldAHli | .ldAHld | .ldHliA | .ldHldA | .ldRpN16 _ _ | .ldIndN16Sp _ => true
  | .ldSpHl | .ldHlSpE8 _ | .push _ | .pop _ | .aluR _ _ | .aluIndHl _ | .aluN8 _ _ | .incR _ => true
  | .incIndHl | .decR _ | .decIndHl | .daa | .cpl | .scf | .ccf | .incRp _ | .decRp _ => true
  | .addHlRp _ | .addSpE8 _ | .rlca | .rrca | .rla | .rra | .rotR _ _ | .rotIndHl _ => true
  | .bitR _ _ | .bitIndHl _ | .resR _ _ | .resIndHl _ | .setR _ _ | .setIndHl _ => true
  | .jpN16 _ | .jpHl | .jrE8 _ | .callN16 _ | .ret | .reti | .rst _ => true
  | .nop | .halt | .stop | .di | .ei => true

/-- T-states of a form (70_reset_and_hazards R224); HALT and STOP have no count. -/
def formTStates (x : Form) (taken : Bool) : Option Nat :=
  match x with
  | .nop | .di | .ei | .daa | .cpl | .scf | .ccf | .rlca | .rrca | .rla | .rra => some 4
  | .ldRR _ _ | .aluR _ _ | .incR _ | .decR _ | .jpHl => some 4
  | .ldRN8 _ _ | .ldRIndHl _ | .ldIndHlR _ => some 8
  | .ldAIndBc | .ldAIndDe | .ldIndBcA | .ldIndDeA => some 8
  | .ldAHli | .ldAHld | .ldHliA | .ldHldA => some 8
  | .ldhAIndC | .ldhIndCA | .ldSpHl => some 8
  | .aluIndHl _ | .aluN8 _ _ | .incRp _ | .decRp _ | .addHlRp _ => some 8
  | .rotR _ _ | .bitR _ _ | .resR _ _ | .setR _ _ => some 8
  | .ldIndHlN8 _ | .ldhAIndN8 _ | .ldhIndN8A _ | .ldRpN16 _ _ | .ldHlSpE8 _ => some 12
  | .pop _ | .incIndHl | .decIndHl | .jrE8 _ | .bitIndHl _ => some 12
  | .ldAIndN16 _ | .ldIndN16A _ | .push _ | .addSpE8 _ | .jpN16 _ | .ret | .reti | .rst _ => some 16
  | .rotIndHl _ | .resIndHl _ | .setIndHl _ => some 16
  | .ldIndN16Sp _ => some 20
  | .callN16 _ => some 24
  | .jpCc _ _ => some (if taken then 16 else 12)
  | .jrCc _ _ => some (if taken then 12 else 8)
  | .callCc _ _ => some (if taken then 24 else 12)
  | .retCc _ => some (if taken then 20 else 8)
  | .halt | .stop => none

/-- The count a step from `s` returns: the executed form's, or none where the step raises an error or is
not enabled (10_state R31; 60_exceptions R206). -/
def stepCycles (s : State) : Option Nat :=
  match s.status, (fetch (s.setLog [])).1 with
  | .running, .instr i => formTStates i.form (formTaken i.form s.f)
  | _, _ => none

end Sys2Proof.Machine
end

