-- ==== Sys2Proof/Safety.lean ====
section
/-! DEFINITION. The terms in which claims speak: the invariant and the runs, what an instruction may change,
the events of a fetch, and closed forms of the flag rules that claims compare the model with. -/

namespace Sys2Proof

/-- Every access reaches a backed byte: the whole space is backed and words wrap (20_memory R36). -/
def Config.allBacked (c : Config) : Prop := c.memSize = 65536 ∧ c.u16Wrap = .wrap

end Sys2Proof

namespace Sys2Proof.Machine

/-! ### The invariant and runs -/

/-- The recorded error is one the core raises at this PC (10_state R30; 60_exceptions R205, R206). -/
def State.statusOk (s : State) : Prop :=
  match s.status with
  | .running => True
  | .faulted .unmappedOpcode key pc0 => pc0 = s.pc ∧ key.mapped = false
  | .faulted .unimplementedInstruction key pc0 =>
    pc0 = s.pc ∧ key.mapped = true ∧ s.config.implements key = false

/-- The machine's invariant: memory is in canonical form and lists backed addresses only (20_memory R37,
R42), P1 is in its domain (00_scope R7), and a recorded error is a true one at PC (60_exceptions R206). -/
structure State.Inv (s : State) : Prop where
  memWf : Memory.wf s.mem = true
  memBacked : ∀ cell ∈ s.mem, cell.1 < s.config.memSize
  configValid : s.config.valid = true
  status : s.statusOk

/-- A run: zero or more steps from one state to another (30_encoding R92). -/
inductive Run : State → State → Prop where
  | refl (s : State) : Run s s
  | step {s t u : State} : Run s t → step t = .next u → Run s u

/-! ### What a fetch reads -/

/-- The opcode key at PC (30_encoding R70, R90). -/
def State.key (s : State) : OpcodeKey :=
  if s.peek s.pc.toNat = escapeByte then .escape (s.peek (s.pc + 1).toNat)
  else .primary (s.peek s.pc.toNat)

/-- How many opcode bytes a key has. -/
def keyBytes : OpcodeKey → Nat
  | .primary _ => 1
  | .escape _ => 2

/-- The events of reading the first `n` instruction bytes at PC (20_memory R36, R50). -/
def State.fetchEvents (s : State) (n : Nat) : List OobEvent :=
  ((s.fetchAddrs.take n).filter (fun a => !(s.inRange a))).map .read

/-- Where the bytes at PC are the instruction's, opcode first and then the immediate, a running step with
its key implemented runs it with that immediate (30_encoding R56, R66, R67, R90). -/
def RunsFetched (i : Instr) (s : State) : Prop :=
  s.status = .running → s.config.implements s.key = true →
    s.window.take (encode i).length = encode i →
    step s = exec i (s.setLog (s.fetchEvents (encode i).length))

/-! ### What an instruction may change -/

/-- The halves of a pair; SP has none (10_state R17). -/
def pairHalves : Reg16 → List Reg8
  | .af => [.a]
  | .bc => [.b, .c]
  | .de => [.d, .e]
  | .hl => [.h, .l]
  | .sp => []

/-- The 8-bit registers an instruction's rule writes, the halves of a pair among them. -/
def formDest8 (x : Form) : List Reg8 :=
  match x with
  | .ldRR r _ | .ldRN8 r _ | .ldRIndHl r | .incR r | .decR r => [r]
  | .rotR _ r | .resR _ r | .setR _ r => [r]
  | .ldAIndBc | .ldAIndDe | .ldAIndN16 _ | .ldhAIndC | .ldhAIndN8 _ => [.a]
  | .ldAHli | .ldAHld => [.a, .h, .l]
  | .ldHliA | .ldHldA | .ldHlSpE8 _ | .addHlRp _ => [.h, .l]
  | .ldRpN16 p _ | .incRp p | .decRp p => pairHalves p.reg
  | .pop p => pairHalves p.reg
  | .aluR op _ | .aluIndHl op | .aluN8 op _ => if op = .cp then [] else [.a]
  | .daa | .cpl | .rlca | .rrca | .rla | .rra => [.a]
  | .ldIndHlR _ | .ldIndHlN8 _ | .ldIndBcA | .ldIndDeA | .ldIndN16A _ | .ldhIndCA | .ldhIndN8A _ => []
  | .ldIndN16Sp _ | .ldSpHl | .push _ | .incIndHl | .decIndHl | .scf | .ccf | .addSpE8 _ => []
  | .rotIndHl _ | .bitR _ _ | .bitIndHl _ | .resIndHl _ | .setIndHl _ => []
  | .jpN16 _ | .jpHl | .jpCc _ _ | .jrE8 _ | .jrCc _ _ | .callN16 _ | .callCc _ _ => []
  | .ret | .retCc _ | .reti | .rst _ | .nop | .halt | .stop | .di | .ei => []

/-- The instructions that write SP (10_state R19). -/
def formWritesSp (x : Form) : Bool :=
  match x with
  | .ldRpN16 p _ | .incRp p | .decRp p => decide (p = .sp)
  | .ldSpHl | .addSpE8 _ => true
  | .push _ | .pop _ | .callN16 _ | .callCc _ _ | .ret | .retCc _ | .reti | .rst _ => true
  | .ldRR _ _ | .ldRN8 _ _ | .ldRIndHl _ | .ldIndHlR _ | .ldIndHlN8 _ | .ldAIndBc | .ldAIndDe => false
  | .ldIndBcA | .ldIndDeA | .ldAIndN16 _ | .ldIndN16A _ | .ldhAIndC | .ldhIndCA | .ldhAIndN8 _ => false
  | .ldhIndN8A _ | .ldAHli | .ldAHld | .ldHliA | .ldHldA | .ldIndN16Sp _ | .ldHlSpE8 _ => false
  | .aluR _ _ | .aluIndHl _ | .aluN8 _ _ | .incR _ | .incIndHl | .decR _ | .decIndHl => false
  | .daa | .cpl | .scf | .ccf | .addHlRp _ | .rlca | .rrca | .rla | .rra => false
  | .rotR _ _ | .rotIndHl _ | .bitR _ _ | .bitIndHl _ | .resR _ _ | .resIndHl _ | .setR _ _ => false
  | .setIndHl _ | .jpN16 _ | .jpHl | .jpCc _ _ | .jrE8 _ | .jrCc _ _ => false
  | .nop | .halt | .stop | .di | .ei => false

/-- The bits of F an instruction's rule writes (10_state R26, R27), which P5 and P6 decide for ADD HL,rr
and LD HL,SP+e8. -/
def formFlagBits (cfg : Config) (x : Form) : List FlagBit :=
  match x with
  | .aluR _ _ | .aluIndHl _ | .aluN8 _ _ | .addSpE8 _ => [flagZ, flagN, flagH, flagC]
  | .rlca | .rrca | .rla | .rra | .rotR _ _ | .rotIndHl _ => [flagZ, flagN, flagH, flagC]
  | .incR _ | .incIndHl | .decR _ | .decIndHl | .bitR _ _ | .bitIndHl _ => [flagZ, flagN, flagH]
  | .daa => [flagZ, flagH, flagC]
  | .cpl => [flagN, flagH]
  | .scf | .ccf => [flagN, flagH, flagC]
  | .addHlRp _ =>
    if cfg.z16Add = .write then [flagZ, flagN, flagH, flagC] else [flagN, flagH, flagC]
  | .ldHlSpE8 _ => if cfg.speLoadFlags = .sm83 then [flagZ, flagN, flagH, flagC] else []
  | .pop p => if p = .af then [0, 1, 2, 3, 4, 5, 6, 7] else []
  | .ldRR _ _ | .ldRN8 _ _ | .ldRIndHl _ | .ldIndHlR _ | .ldIndHlN8 _ | .ldAIndBc | .ldAIndDe => []
  | .ldIndBcA | .ldIndDeA | .ldAIndN16 _ | .ldIndN16A _ | .ldhAIndC | .ldhIndCA | .ldhAIndN8 _ => []
  | .ldhIndN8A _ | .ldAHli | .ldAHld | .ldHliA | .ldHldA | .ldRpN16 _ _ | .ldIndN16Sp _ | .ldSpHl => []
  | .push _ | .incRp _ | .decRp _ | .resR _ _ | .resIndHl _ | .setR _ _ | .setIndHl _ => []
  | .jpN16 _ | .jpHl | .jpCc _ _ | .jrE8 _ | .jrCc _ _ | .callN16 _ | .callCc _ _ => []
  | .ret | .retCc _ | .reti | .rst _ | .nop | .halt | .stop | .di | .ei => []

/-- The two addresses of a word stored at a (20_memory R40). -/
def wordAddrs (s : State) (a : Word) : List Nat := [a.toNat, secondAddr s.config a]

/-- The addresses `Push16` stores to (41_load16_stack R114). -/
def pushAddrs (s : State) : List Nat :=
  match s.config.stackDir with
  | .up => wordAddrs s s.sp
  | .down => wordAddrs s (s.sp - 2)

/-- The addresses an instruction stores to in a state, by its rule. -/
def formStores (x : Form) (s : State) : List Nat :=
  match x with
  | .ldIndHlR _ | .ldIndHlN8 _ | .ldHliA | .ldHldA => [(s.get16 .hl).toNat]
  | .incIndHl | .decIndHl | .rotIndHl _ | .resIndHl _ | .setIndHl _ => [(s.get16 .hl).toNat]
  | .ldIndBcA => [(s.get16 .bc).toNat]
  | .ldIndDeA => [(s.get16 .de).toNat]
  | .ldIndN16A w => [w.toNat]
  | .ldhIndCA => [(highPage s.c).toNat]
  | .ldhIndN8A n => [(highPage n).toNat]
  | .ldIndN16Sp w => wordAddrs s w
  | .push _ | .callN16 _ | .rst _ => pushAddrs s
  | .callCc cc _ => if condHolds cc.cond s.f then pushAddrs s else []
  | .ldRR _ _ | .ldRN8 _ _ | .ldRIndHl _ | .ldAIndBc | .ldAIndDe | .ldAIndN16 _ | .ldhAIndC => []
  | .ldhAIndN8 _ | .ldAHli | .ldAHld | .ldRpN16 _ _ | .ldSpHl | .ldHlSpE8 _ | .pop _ => []
  | .aluR _ _ | .aluIndHl _ | .aluN8 _ _ | .incR _ | .decR _ | .daa | .cpl | .scf | .ccf => []
  | .incRp _ | .decRp _ | .addHlRp _ | .addSpE8 _ | .rlca | .rrca | .rla | .rra | .rotR _ _ => []
  | .bitR _ _ | .bitIndHl _ | .resR _ _ | .setR _ _ | .jpN16 _ | .jpHl | .jpCc _ _ | .jrE8 _ => []
  | .jrCc _ _ | .ret | .retCc _ | .reti | .nop | .halt | .stop | .di | .ei => []

/-- The instruction ends in `Branch` from a state with these flags, or raises (30_encoding R91). -/
def formLeavesLine (x : Form) (f : Byte) : Bool :=
  match x with
  | .jpN16 _ | .jpHl | .jrE8 _ | .callN16 _ | .ret | .reti | .rst _ | .halt | .stop => true
  | .jpCc cc _ | .jrCc cc _ | .callCc cc _ | .retCc cc => condHolds cc.cond f
  | .ldRR _ _ | .ldRN8 _ _ | .ldRIndHl _ | .ldIndHlR _ | .ldIndHlN8 _ | .ldAIndBc | .ldAIndDe => false
  | .ldIndBcA | .ldIndDeA | .ldAIndN16 _ | .ldIndN16A _ | .ldhAIndC | .ldhIndCA | .ldhAIndN8 _ => false
  | .ldhIndN8A _ | .ldAHli | .ldAHld | .ldHliA | .ldHldA | .ldRpN16 _ _ | .ldIndN16Sp _ => false
  | .ldSpHl | .ldHlSpE8 _ | .push _ | .pop _ | .aluR _ _ | .aluIndHl _ | .aluN8 _ _ | .incR _ => false
  | .incIndHl | .decR _ | .decIndHl | .daa | .cpl | .scf | .ccf | .incRp _ | .decRp _ => false
  | .addHlRp _ | .addSpE8 _ | .rlca | .rrca | .rla | .rra | .rotR _ _ | .rotIndHl _ => false
  | .bitR _ _ | .bitIndHl _ | .resR _ _ | .resIndHl _ | .setR _ _ | .setIndHl _ => false
  | .nop | .di | .ei => false

/-! ### Closed forms -/

/-- The 3-bit code of a register operand (30_encoding R59). -/
def reg8Code : Reg8 → Nat
  | .b => 0
  | .c => 1
  | .d => 2
  | .e => 3
  | .h => 4
  | .l => 5
  | .a => 7

/-- The 2-bit code of `rp` (30_encoding R60). -/
def rpCode : Rp → Nat
  | .bc => 0
  | .de => 1
  | .hl => 2
  | .sp => 3

/-- The 2-bit code of `rp2` (30_encoding R61). -/
def rp2Code : Rp2 → Nat
  | .bc => 0
  | .de => 1
  | .hl => 2
  | .af => 3

/-- The 2-bit code of `cc` (30_encoding R62). -/
def ccCode : Cc → Nat
  | .nz => 0
  | .z => 1
  | .nc => 2
  | .c => 3

/-- The 3-bit code of `alu` (30_encoding R63). -/
def aluCode : AluOp → Nat
  | .add => 0
  | .adc => 1
  | .sub => 2
  | .sbc => 3
  | .and => 4
  | .xor => 5
  | .or => 6
  | .cp => 7

/-- The 3-bit code of `rot` (30_encoding R64). -/
def rotCode : RotOp → Nat
  | .rlc => 0
  | .rrc => 1
  | .rl => 2
  | .rr => 3
  | .sla => 4
  | .sra => 5
  | .swap => 6
  | .srl => 7

/-- The byte of a number below 256. -/
def byteOf (n : Nat) : Byte := BitVec.ofNat 8 n

/-- F with the four named flags as given and bits 3..0 kept (10_state R22, R23). -/
def flagsByte (z n h c : Bool) (f : Byte) : Byte :=
  byteOf (128 * z.toNat + 64 * n.toNat + 32 * h.toNat + 16 * c.toNat + f.toNat % 16)

/-- Add8 in closed form (42_alu8 R124). -/
def closedAdd (a b : Byte) (cin : Bool) : AluResult :=
  let sum := a.toNat + b.toNat + cin.toNat
  { result := byteOf sum
    z := decide (sum % 256 = 0)
    n := false
    h := decide (a.toNat % 16 + b.toNat % 16 + cin.toNat > 15)
    c := decide (sum > 255) }

/-- Sub8 in closed form (42_alu8 R124). -/
def closedSub (a b : Byte) (cin : Bool) : AluResult :=
  let diff := 512 + a.toNat - (b.toNat + cin.toNat)
  { result := byteOf diff
    z := decide (diff % 256 = 0)
    n := true
    h := decide (a.toNat % 16 < b.toNat % 16 + cin.toNat)
    c := decide (a.toNat < b.toNat + cin.toNat) }

/-- What an ALU operation computes, in closed form (42_alu8 R124 to R149). -/
def closedAlu (op : AluOp) (a b : Byte) (carry : Bool) : AluResult :=
  match op with
  | .add => closedAdd a b false
  | .adc => closedAdd a b carry
  | .sub => closedSub a b false
  | .sbc => closedSub a b carry
  | .and => ⟨a &&& b, decide (a &&& b = 0), false, true, false⟩
  | .xor => ⟨a ^^^ b, decide (a ^^^ b = 0), false, false, false⟩
  | .or => ⟨a ||| b, decide (a ||| b = 0), false, false, false⟩
  | .cp => closedSub a b false

/-- The result of a rotate or shift as a number, from v, its end bits and the old carry
(44_rotate_shift_bit R166 to R181). -/
def closedRot (op : RotOp) (v : Byte) (carry : Bool) : Byte :=
  let n := v.toNat
  let up := 2 * n % 256
  let down := n / 2
  match op with
  | .rlc => byteOf (up + n / 128)
  | .rrc => byteOf (down + 128 * (n % 2))
  | .rl => byteOf (up + carry.toNat)
  | .rr => byteOf (down + 128 * carry.toNat)
  | .sla => byteOf up
  | .sra => byteOf (down + n / 128 * 128)
  | .swap => byteOf (n % 16 * 16 + n / 16)
  | .srl => byteOf down

/-- The carry a rotate or shift leaves (44_rotate_shift_bit R166 to R181). -/
def closedRotCarry (op : RotOp) (v : Byte) : Bool :=
  match op with
  | .rlc | .rl | .sla => decide (v.toNat ≥ 128)
  | .rrc | .rr | .sra | .srl => decide (v.toNat % 2 = 1)
  | .swap => false

/-- A named flag of the state (10_state R24). -/
def State.flag (s : State) (b : FlagBit) : Bool := asBool b s.f

/-- The state with bits 3..0 of F replaced by those of x (10_state R23). -/
def State.withLowF (x : Byte) (s : State) : State := s.setF ((s.f &&& 0xF0) ||| (x &&& 0x0F))

end Sys2Proof.Machine
end

