-- ==== Sys2Proof/Certificates/Slice0/Obligations.lean ====
section
/-! DEFINITION. The statements for the provers. Each docstring names the rules it formalises. Instructions
are named by their form (`Form.instr` gives the row of the opcode table), so that one statement speaks of
every row of its shape. -/

open Sys2Proof Sys2Proof.Machine

/-! ### Encoding -/

/-- Decoding an encoded well-formed instruction, whatever bytes follow, gives it back with every operand
(30_encoding R56 to R73). -/
def Obligations.DecodeInvertsEncode : Prop :=
  ∀ (i : Instr) (rest : List Byte), i.wellFormed = true → decode (encode i ++ rest) = .ok (i, rest)

/-- Whatever decodes is a well-formed instruction whose encoding is the bytes decoded; only STOP, whose
second byte may be anything, does not fix them (30_encoding R70 to R74; 46_misc R202). -/
def Obligations.EncodeInvertsDecode : Prop :=
  ∀ (bytes : List Byte) (i : Instr) (rest : List Byte), decode bytes = .ok (i, rest) →
    i.wellFormed = true ∧ (i ≠ .stop → encode i ++ rest = bytes) ∧ (i = .stop → bytes.head? = some 0x10)

/-- Words written out bit by bit from the encodings of 40_load8 to 46_misc, one or more of every family. -/
def Obligations.WrittenWordsDecode : Prop :=
  decode [0b00111110, 0x05] = .ok (.ldAN8 0x05, []) ∧
  decode [0b01000001] = .ok (.ldBC, []) ∧
  decode [0b11100000, 0x40] = .ok (.ldhIndN8A 0x40, []) ∧
  decode [0b00100001, 0x34, 0x12] = .ok (.ldHlN16 0x1234, []) ∧
  decode [0b11110001] = .ok (.popAf, []) ∧
  decode [0b10000000] = .ok (.addAB, []) ∧
  decode [0b11111110, 0x2F] = .ok (.cpAN8 0x2F, []) ∧
  decode [0b00111001] = .ok (.addHlSp, []) ∧
  decode [0xCB, 0b00110111] = .ok (.swapA, []) ∧
  decode [0xCB, 0b01111100] = .ok (.bitH 7, []) ∧
  decode [0b00100000, 0xFB] = .ok (.jrNzE8 0xFB, []) ∧
  decode [0b11101111] = .ok (.rst28, []) ∧
  decode [0b11110011] = .ok (.di, []) ∧
  decode [0b01110110] = .ok (.halt, []) ∧
  decode [0b00010000, 0xFF] = .ok (.stop, [])

/-- The length of an instruction follows from its first byte alone, by the lists of 30_encoding R58, and
is the length of its encoding. -/
def Obligations.LengthFollowsFromFirstByte : Prop :=
  (∀ op : Byte, lengthOf op = some 2 ↔ op ∈
    ([0x06, 0x0E, 0x16, 0x1E, 0x26, 0x2E, 0x36, 0x3E, 0x10, 0x18, 0x20, 0x28, 0x30, 0x38, 0xC6, 0xCE, 0xD6,
      0xDE, 0xE6, 0xEE, 0xF6, 0xFE, 0xE0, 0xF0, 0xE8, 0xF8, 0xCB] : List Byte)) ∧
  (∀ op : Byte, lengthOf op = some 3 ↔ op ∈
    ([0x01, 0x11, 0x21, 0x31, 0x08, 0xC2, 0xCA, 0xD2, 0xDA, 0xC3, 0xC4, 0xCC, 0xD4, 0xDC, 0xCD, 0xEA,
      0xFA] : List Byte)) ∧
  (∀ op : Byte, lengthOf op = none ↔ op ∈
    ([0xD3, 0xDB, 0xDD, 0xE3, 0xE4, 0xEB, 0xEC, 0xED, 0xF4, 0xFC, 0xFD] : List Byte)) ∧
  (∀ op : Byte, lengthOf op = none ∨ lengthOf op = some 1 ∨ lengthOf op = some 2 ∨ lengthOf op = some 3) ∧
  (∀ i : Instr, i.wellFormed = true → (encode i).head?.bind lengthOf = some (encode i).length)

/-! ### The step and its errors -/

/-- A step of a running core whose bytes at PC decode to an instruction is `exec` of it, if its key is
implemented, on the state with the events of reading its bytes (none in range); HALT and STOP, whose keys
never are, are run on the state after the opcode fetch alone (30_encoding R90). `exec` itself moves PC. -/
def Obligations.StepRunsDecodedInstruction : Prop :=
  ∀ (s : State) (i : Instr) (rest : List Byte), s.status = .running → decode s.window = .ok (i, rest) →
    (s.config.implements s.key = true → step s = exec i (s.setLog (s.fetchEvents (encode i).length))) ∧
    (i = .halt ∨ i = .stop → step s = exec i (s.setLog (s.fetchEvents 1)))

/-- The eleven unmapped first bytes decode to nothing, and fetching one raises UnmappedOpcode naming it,
with no second byte read; no escape key is unmapped (30_encoding R74). -/
def Obligations.UnmappedBytesRaise : Prop :=
  (∀ (op : Byte) (rest : List Byte), decode (op :: rest) = .error (.unmapped op) ↔ op ∈
    ([0xD3, 0xDB, 0xDD, 0xE3, 0xE4, 0xEB, 0xEC, 0xED, 0xF4, 0xFC, 0xFD] : List Byte)) ∧
  (∀ op2 : Byte, (OpcodeKey.escape op2).mapped = true) ∧
  (∀ s : State, s.status = .running → s.peek s.pc.toNat ∈
      ([0xD3, 0xDB, 0xDD, 0xE3, 0xE4, 0xEB, 0xEC, 0xED, 0xF4, 0xFC, 0xFD] : List Byte) →
    step s = .next ((s.setLog (s.fetchEvents 1)).setStatus
      (.faulted .unmappedOpcode (.primary (s.peek s.pc.toNat)) s.pc)))

/-- A mapped key that P8 leaves out raises UnimplementedInstruction after its opcode bytes alone are read;
by default P8 leaves out exactly 0x76 and 0x10 (30_encoding R75). -/
def Obligations.UnimplementedKeysRaise : Prop :=
  (∀ k : OpcodeKey, Config.default.implements k = true ↔
    k.mapped = true ∧ k ≠ .primary 0x76 ∧ k ≠ .primary 0x10) ∧
  (∀ s : State, s.status = .running → s.key.mapped = true → s.config.implements s.key = false →
    step s = .next ((s.setLog (s.fetchEvents (keyBytes s.key))).setStatus
      (.faulted .unimplementedInstruction s.key s.pc)))

/-- Faulted is terminal: no step is enabled from it, so nothing clears it (10_state R30; 60_exceptions
R209). -/
def Obligations.FaultedIsTerminal : Prop :=
  ∀ (s : State) (kind : ErrorKind) (key : OpcodeKey) (pc0 : Word), s.status = .faulted kind key pc0 →
    step s = .fault (.stopped kind key pc0) ∧ ∀ t : State, Run s t → t = s

/-- Every step of a running core completes in a next state, and the core is still running there exactly
when the key at PC is implemented: nothing but dispatch raises an error (60_exceptions R207, R208). -/
def Obligations.RunningStepsStopOnlyAtDispatch : Prop :=
  ∀ s : State, s.status = .running →
    ∃ t : State, step s = .next t ∧ (t.status = .running ↔ s.config.implements s.key = true)

/-- Errors are precise: the faulting step changes `status` and nothing else, PC stays pc0, the key is the
one fetched, and the only events are those of its one or two opcode fetches (60_exceptions R206). -/
def Obligations.ErrorsArePrecise : Prop :=
  ∀ (s t : State) (kind : ErrorKind) (key : OpcodeKey) (pc0 : Word), s.status = .running →
    step s = .next t → t.status = .faulted kind key pc0 →
    pc0 = s.pc ∧ key = s.key ∧
      t = (s.setLog (s.fetchEvents (keyBytes s.key))).setStatus (.faulted kind key pc0)

/-! ### Loads -/

/-- LD r,r' (40_load8 R95). -/
def Obligations.LdRegRegCopies : Prop :=
  ∀ (dst src : Reg8) (s : State),
    encode (Form.ldRR dst src).instr = [byteOf (0x40 + 8 * reg8Code dst + reg8Code src)] ∧
    exec (Form.ldRR dst src).instr s = .next ((s.set8 dst (s.get8 src)).setPc (s.pc + 1))

/-- LD r,n8, with the immediate at the address after the opcode, modulo 2^16 (40_load8 R96). -/
def Obligations.LdRegImmediate : Prop :=
  ∀ (r : Reg8) (n : Byte) (s : State),
    encode (Form.ldRN8 r n).instr = [byteOf (0x06 + 8 * reg8Code r), n] ∧
    exec (Form.ldRN8 r n).instr s = .next ((s.set8 r n).setPc (s.pc + 2)) ∧
    RunsFetched (Form.ldRN8 r n).instr s

/-- LD r,(HL), LD A,(BC), LD A,(DE), LD A,(n16), LDH A,(C), LDH A,(n8): the byte at the address goes to the
register, and nothing else but PC and the read's event changes (40_load8 R97, R100, R101, R104, R106,
R108). -/
def Obligations.LoadsFromMemory : Prop :=
  ∀ s : State,
    (∀ r : Reg8, encode (Form.ldRIndHl r).instr = [byteOf (0x46 + 8 * reg8Code r)] ∧
      exec (Form.ldRIndHl r).instr s = .next (((s.noteRead (cat s.h s.l).toNat).set8 r
        (s.peek (cat s.h s.l).toNat)).setPc (s.pc + 1))) ∧
    (encode .ldAIndBc = [0x0A] ∧ exec .ldAIndBc s = .next (((s.noteRead (cat s.b s.c).toNat).set8 .a
        (s.peek (cat s.b s.c).toNat)).setPc (s.pc + 1))) ∧
    (encode .ldAIndDe = [0x1A] ∧ exec .ldAIndDe s = .next (((s.noteRead (cat s.d s.e).toNat).set8 .a
        (s.peek (cat s.d s.e).toNat)).setPc (s.pc + 1))) ∧
    (∀ w : Word, encode (.ldAIndN16 w) = [0xFA, lo w, hi w] ∧ exec (.ldAIndN16 w) s =
        .next (((s.noteRead w.toNat).set8 .a (s.peek w.toNat)).setPc (s.pc + 3)) ∧
        RunsFetched (.ldAIndN16 w) s) ∧
    (encode .ldhAIndC = [0xF2] ∧ exec .ldhAIndC s = .next (((s.noteRead (cat 0xFF s.c).toNat).set8 .a
        (s.peek (cat 0xFF s.c).toNat)).setPc (s.pc + 1))) ∧
    (∀ n : Byte, encode (.ldhAIndN8 n) = [0xF0, n] ∧ exec (.ldhAIndN8 n) s =
        .next (((s.noteRead (cat 0xFF n).toNat).set8 .a (s.peek (cat 0xFF n).toNat)).setPc (s.pc + 2)) ∧
        RunsFetched (.ldhAIndN8 n) s)

/-- LD (HL),r, LD (HL),n8, LD (BC),A, LD (DE),A, LD (n16),A, LDH (C),A, LDH (n8),A: one byte write at the
address, and nothing else but PC changes (40_load8 R98, R99, R102, R103, R105, R107, R109). -/
def Obligations.StoresToMemory : Prop :=
  ∀ s : State,
    (∀ r : Reg8, encode (Form.ldIndHlR r).instr = [byteOf (0x70 + reg8Code r)] ∧
      exec (Form.ldIndHlR r).instr s =
        .next ((writeU8 (cat s.h s.l).toNat (s.get8 r) s).setPc (s.pc + 1))) ∧
    (∀ n : Byte, encode (.ldIndHlN8 n) = [0x36, n] ∧
      exec (.ldIndHlN8 n) s = .next ((writeU8 (cat s.h s.l).toNat n s).setPc (s.pc + 2)) ∧
      RunsFetched (.ldIndHlN8 n) s) ∧
    (encode .ldIndBcA = [0x02] ∧
      exec .ldIndBcA s = .next ((writeU8 (cat s.b s.c).toNat s.a s).setPc (s.pc + 1))) ∧
    (encode .ldIndDeA = [0x12] ∧
      exec .ldIndDeA s = .next ((writeU8 (cat s.d s.e).toNat s.a s).setPc (s.pc + 1))) ∧
    (∀ w : Word, encode (.ldIndN16A w) = [0xEA, lo w, hi w] ∧
      exec (.ldIndN16A w) s = .next ((writeU8 w.toNat s.a s).setPc (s.pc + 3)) ∧
      RunsFetched (.ldIndN16A w) s) ∧
    (encode .ldhIndCA = [0xE2] ∧
      exec .ldhIndCA s = .next ((writeU8 (cat 0xFF s.c).toNat s.a s).setPc (s.pc + 1))) ∧
    (∀ n : Byte, encode (.ldhIndN8A n) = [0xE0, n] ∧
      exec (.ldhIndN8A n) s = .next ((writeU8 (cat 0xFF n).toNat s.a s).setPc (s.pc + 2)) ∧
      RunsFetched (.ldhIndN8A n) s)

/-- LD A,(HL+), LD A,(HL-), LD (HL+),A, LD (HL-),A: the old HL is the address, then HL is one more or one
less modulo 2^16 (40_load8 R110 to R113). -/
def Obligations.PostIncrementLoads : Prop :=
  ∀ s : State, let hl := cat s.h s.l
    (encode .ldAHli = [0x2A] ∧ exec .ldAHli s = .next ((((s.set16 .hl (hl + 1)).noteRead hl.toNat).set8 .a
        (s.peek hl.toNat)).setPc (s.pc + 1))) ∧
    (encode .ldAHld = [0x3A] ∧ exec .ldAHld s = .next ((((s.set16 .hl (hl - 1)).noteRead hl.toNat).set8 .a
        (s.peek hl.toNat)).setPc (s.pc + 1))) ∧
    (encode .ldHliA = [0x22] ∧ exec .ldHliA s =
        .next ((writeU8 hl.toNat s.a (s.set16 .hl (hl + 1))).setPc (s.pc + 1))) ∧
    (encode .ldHldA = [0x32] ∧ exec .ldHldA s =
        .next ((writeU8 hl.toNat s.a (s.set16 .hl (hl - 1))).setPc (s.pc + 1)))

/-- LD rr,n16, LD (n16),SP, LD SP,HL (41_load16_stack R116 to R118). -/
def Obligations.WordLoads : Prop :=
  ∀ (s : State) (w : Word),
    (∀ p : Rp, encode (Form.ldRpN16 p w).instr = [byteOf (0x01 + 16 * rpCode p), lo w, hi w] ∧
      exec (Form.ldRpN16 p w).instr s = .next ((s.set16 p.reg w).setPc (s.pc + 3)) ∧
      RunsFetched (Form.ldRpN16 p w).instr s) ∧
    (encode (.ldIndN16Sp w) = [0x08, lo w, hi w] ∧
      exec (.ldIndN16Sp w) s = .next ((writeU16 w s.sp s).setPc (s.pc + 3)) ∧
      RunsFetched (.ldIndN16Sp w) s) ∧
    (encode .ldSpHl = [0xF9] ∧ exec .ldSpHl s = .next ((s.setSp (cat s.h s.l)).setPc (s.pc + 1)))

/-- LD HL,SP+e8: the sum with the sign-extended offset, and the flags of P6 (41_load16_stack R119). -/
def Obligations.LdHlSpOffset : Prop :=
  ∀ (e : Byte) (s : State), encode (.ldHlSpE8 e) = [0xF8, e] ∧ RunsFetched (.ldHlSpE8 e) s ∧
    (s.config.speLoadFlags = .keep →
      exec (.ldHlSpE8 e) s = .next ((s.set16 .hl (s.sp + e.signExtend 16)).setPc (s.pc + 2))) ∧
    (s.config.speLoadFlags = .sm83 →
      exec (.ldHlSpE8 e) s = .next (((s.set16 .hl (s.sp + e.signExtend 16)).setF
        (flagsByte false false (decide (s.sp.toNat % 16 + e.toNat % 16 > 15))
          (decide (s.sp.toNat % 256 + e.toNat > 255)) s.f)).setPc (s.pc + 2)))

/-! ### The stack -/

/-- Push16 and Pop16 under both stack directions (41_load16_stack R114). -/
def Obligations.StackPrimitivesMove : Prop :=
  ∀ (s : State) (w : Word),
    (s.config.stackDir = .up →
      push16 w s = (writeU16 s.sp w s).setSp (s.sp + 2) ∧
      pop16 s = readU16 (s.sp - 2) (s.setSp (s.sp - 2))) ∧
    (s.config.stackDir = .down →
      push16 w s = writeU16 (s.sp - 2) w (s.setSp (s.sp - 2)) ∧
      pop16 s = ((readU16 s.sp s).1, (readU16 s.sp s).2.setSp (s.sp + 2)))

/-- With the two stack bytes in range, a push writes them and moves SP by two, and a pop after it gives the
value back and leaves SP where it was (41_load16_stack R115). -/
def Obligations.PopInvertsPush : Prop :=
  ∀ (s : State) (w base after : Word),
    (s.config.stackDir = .up → base = s.sp ∧ after = s.sp + 2) →
    (s.config.stackDir = .down → base = s.sp - 2 ∧ after = s.sp - 2) →
    s.inRange base.toNat = true → s.inRange (secondAddr s.config base) = true →
    (push16 w s).sp = after ∧
    (push16 w s).peek base.toNat = lo w ∧ (push16 w s).peek (secondAddr s.config base) = hi w ∧
    pop16 (push16 w s) = (w, writeU16 base w s) ∧ (pop16 (push16 w s)).2.sp = s.sp

/-- PUSH rr (41_load16_stack R120): the pair, F's low bits among them, goes to the stack. -/
def Obligations.PushStoresPair : Prop :=
  ∀ (p : Rp2) (s : State), encode (Form.push p).instr = [byteOf (0xC5 + 16 * rp2Code p)] ∧
    (s.config.stackDir = .up → exec (Form.push p).instr s =
      .next (((writeU16 s.sp (s.get16 p.reg) s).setSp (s.sp + 2)).setPc (s.pc + 1))) ∧
    (s.config.stackDir = .down → exec (Form.push p).instr s =
      .next (((writeU16 (s.sp - 2) (s.get16 p.reg) s).setSp (s.sp - 2)).setPc (s.pc + 1)))

/-- POP rr (41_load16_stack R121): the word at the slot goes to the pair; POP AF writes A and, by P3, all
of F. `slot` is the slot's address and `after` the new SP. -/
def Obligations.PopLoadsPair : Prop :=
  ∀ (p : Rp2) (s : State) (slot after : Word), encode (Form.pop p).instr = [byteOf (0xC1 + 16 * rp2Code p)] ∧
    ((s.config.stackDir = .up → slot = s.sp - 2 ∧ after = s.sp - 2) →
     (s.config.stackDir = .down → slot = s.sp ∧ after = s.sp + 2) →
      exec (Form.pop p).instr s =
        .next (((((s.noteRead slot.toNat).noteRead (secondAddr s.config slot)).setSp after).set16 p.reg
          (cat (s.peek (secondAddr s.config slot)) (s.peek slot.toNat))).setPc (s.pc + 1)))

/-! ### Memory -/

/-- Byte accesses: in range a read returns the stored byte and changes nothing and a write is seen at its
address and nowhere else; out of range a read returns 0, a write is discarded, and each makes one event
(20_memory R36 to R38). -/
def Obligations.ByteAccessesAreBounded : Prop :=
  ∀ (s : State) (n : Nat) (v : Byte),
    (n < s.config.memSize → readU8 n s = (Memory.get s.mem n, s) ∧ (writeU8 n v s).log = s.log ∧
      (writeU8 n v s).peek n = v ∧ ∀ k : Nat, k ≠ n → (writeU8 n v s).peek k = s.peek k) ∧
    (n ≥ s.config.memSize → readU8 n s = (0, s.setLog (s.log ++ [.read n])) ∧
      writeU8 n v s = s.setLog (s.log ++ [.write n v]))

/-- Word accesses are little-endian, low byte first, and the second address wraps or not by P7
(20_memory R39, R40). -/
def Obligations.WordAccessesAreLittleEndian : Prop :=
  ∀ (s : State) (a w : Word) (a2 : Nat),
    (s.config.u16Wrap = .wrap → a2 = (a.toNat + 1) % 65536) →
    (s.config.u16Wrap = .linear → a2 = a.toNat + 1) →
    readU16 a s = (cat (s.peek a2) (s.peek a.toNat), (s.noteRead a.toNat).noteRead a2) ∧
    writeU16 a w s = writeU8 a2 (hi w) (writeU8 a.toNat (lo w) s) ∧
    (∀ k : Nat, (writeU16 a w s).peek k =
      if k = a2 ∧ a2 < s.config.memSize then hi w
      else if k = a.toNat ∧ a.toNat < s.config.memSize then lo w else s.peek k)

/-- The word round trip: a word written is the word read where both bytes are in range, and a byte out of
range reads 0 (20_memory R41). -/
def Obligations.WordRoundTrips : Prop :=
  ∀ (s : State) (a w : Word),
    (s.inRange a.toNat = true → s.inRange (secondAddr s.config a) = true →
      (readU16 a (writeU16 a w s)).1 = w) ∧
    (s.inRange a.toNat = false → lo (readU16 a (writeU16 a w s)).1 = 0) ∧
    (s.inRange (secondAddr s.config a) = false → hi (readU16 a (writeU16 a w s)).1 = 0)

/-- Two memories in canonical form that read alike everywhere are the same data (the model's own
representation of 20_memory R37; log entry 2). -/
def Obligations.CanonicalMemoriesAreEqual : Prop :=
  ∀ m n : Memory, Memory.wf m = true → Memory.wf n = true →
    (∀ k : Nat, Memory.get m k = Memory.get n k) → m = n

/-! ### The register file and the flags byte -/

/-- The pairs alias their halves: a pair reads as its two halves, a write of a pair writes both, and a
write of a half is seen in the pair; AF writes F through WriteF (10_state R17). -/
def Obligations.PairsAliasHalves : Prop :=
  ∀ (s : State) (w : Word) (v : Byte),
    (s.get16 .af = cat s.a s.f ∧ s.get16 .bc = cat s.b s.c ∧ s.get16 .de = cat s.d s.e ∧
      s.get16 .hl = cat s.h s.l) ∧
    (s.set16 .bc w = (s.set8 .b (hi w)).set8 .c (lo w) ∧ s.set16 .de w = (s.set8 .d (hi w)).set8 .e (lo w) ∧
      s.set16 .hl w = (s.set8 .h (hi w)).set8 .l (lo w) ∧
      s.set16 .af w = (s.set8 .a (hi w)).setF (wholeF s.config.fLow (lo w))) ∧
    (∀ p : Rp, (s.set16 p.reg w).get16 p.reg = w) ∧
    ((s.set8 .b v).get16 .bc = cat v (lo (s.get16 .bc)) ∧ (s.set8 .c v).get16 .bc = cat (hi (s.get16 .bc)) v ∧
      (s.set8 .d v).get16 .de = cat v (lo (s.get16 .de)) ∧ (s.set8 .e v).get16 .de = cat (hi (s.get16 .de)) v ∧
      (s.set8 .h v).get16 .hl = cat v (lo (s.get16 .hl)) ∧ (s.set8 .l v).get16 .hl = cat (hi (s.get16 .hl)) v ∧
      (s.set8 .a v).get16 .af = cat v (lo (s.get16 .af)) ∧ (s.setF v).get16 .af = cat (hi (s.get16 .af)) v)

/-- The flag-view laws, at all eight positions and every F (10_state R25). -/
def Obligations.FlagViewLaws : Prop :=
  ∀ (b : FlagBit) (f : Byte),
    asBool b (flagSet b f) = true ∧ asBool b (flagReset b f) = false ∧ flagToggle b (flagToggle b f) = f ∧
    ∀ k : FlagBit, k ≠ b → asBool k (flagSet b f) = asBool k f ∧ asBool k (flagReset b f) = asBool k f ∧
      asBool k (flagToggle b f) = asBool k f ∧ ∀ v : Bool, asBool k (flagSetBool b v f) = asBool k f

/-- POP AF is a whole-byte write of F: Z, N, H and C are bits 7, 6, 5 and 4 of the low byte popped, and
bits 3..0 are by P3 those of that byte, zeros or ones (10_state R26). -/
def Obligations.PopAfWritesWholeF : Prop :=
  ∀ (s t : State), exec .popAf s = .next t →
    t.flag flagZ = (pop16 s).1.getLsbD 7 ∧ t.flag flagN = (pop16 s).1.getLsbD 6 ∧
    t.flag flagH = (pop16 s).1.getLsbD 5 ∧ t.flag flagC = (pop16 s).1.getLsbD 4 ∧
    ∀ k : FlagBit, k.val < 4 →
      (s.config.fLow = .asWritten → t.flag k = (pop16 s).1.getLsbD k.val) ∧
      (s.config.fLow = .zero → t.flag k = false) ∧ (s.config.fLow = .one → t.flag k = true)

/-! ### 8-bit arithmetic and logic -/

/-- The two-step adders equal their closed forms, the two steps never both carry or borrow, out of the byte
or out of the low nibble, and a subtract then an add restores the left operand (42_alu8 R124). -/
def Obligations.AddersHaveClosedForms : Prop :=
  ∀ (x y : Byte) (cin : Bool),
    add8 x y cin = closedAdd x y cin ∧ sub8 x y cin = closedSub x y cin ∧
    (x.toNat + y.toNat > 0xFF → (x + y).toNat ≤ 0xFE ∧ (x + y).toNat + cin.toNat ≤ 0xFF) ∧
    (x.toNat < y.toNat → cin.toNat ≤ (x - y).toNat) ∧
    (x.toNat % 16 + y.toNat % 16 > 15 → (x + y).toNat % 16 + cin.toNat ≤ 15) ∧
    (x.toNat % 16 < y.toNat % 16 → cin.toNat ≤ (x - y).toNat % 16) ∧
    (add8 (sub8 x y false).result y false).result = x

/-- ADD, ADC, SUB, SBC, AND, XOR, OR and CP of A with a register, in closed form; CP leaves A
(42_alu8 R126, R129, R132, R135, R138, R141, R144, R147). -/
def Obligations.AluWithRegister : Prop :=
  ∀ (op : AluOp) (r : Reg8) (s : State), let k := closedAlu op s.a (s.get8 r) (s.flag flagC)
    encode (Form.aluR op r).instr = [byteOf (0x80 + 8 * aluCode op + reg8Code r)] ∧
    exec (Form.aluR op r).instr s = .next (((s.set8 .a (if op = .cp then s.a else k.result)).setF
      (flagsByte k.z k.n k.h k.c s.f)).setPc (s.pc + 1))

/-- The same operations with the byte at HL, which is only read (42_alu8 R127, R130, R133, R136, R139, R142,
R145, R148). -/
def Obligations.AluWithIndHl : Prop :=
  ∀ (op : AluOp) (s : State), let v := s.peek (cat s.h s.l).toNat
    let k := closedAlu op s.a v (s.flag flagC)
    encode (Form.aluIndHl op).instr = [byteOf (0x86 + 8 * aluCode op)] ∧
    exec (Form.aluIndHl op).instr s = .next ((((s.noteRead (cat s.h s.l).toNat).set8 .a
      (if op = .cp then s.a else k.result)).setF (flagsByte k.z k.n k.h k.c s.f)).setPc (s.pc + 1))

/-- The same operations with an immediate byte (42_alu8 R128, R131, R134, R137, R140, R143, R146, R149). -/
def Obligations.AluWithImmediate : Prop :=
  ∀ (op : AluOp) (n : Byte) (s : State), let k := closedAlu op s.a n (s.flag flagC)
    encode (Form.aluN8 op n).instr = [byteOf (0xC6 + 8 * aluCode op), n] ∧
    RunsFetched (Form.aluN8 op n).instr s ∧
    exec (Form.aluN8 op n).instr s = .next (((s.set8 .a (if op = .cp then s.a else k.result)).setF
      (flagsByte k.z k.n k.h k.c s.f)).setPc (s.pc + 2))

/-- INC and DEC of a register and of the byte at HL: Z from the result, N, H from the low nibble, C
unchanged (42_alu8 R150 to R153). -/
def Obligations.IncDecBytes : Prop :=
  ∀ s : State, let hl := (cat s.h s.l).toNat
    let v := s.peek hl
    (∀ r : Reg8, encode (Form.incR r).instr = [byteOf (0x04 + 8 * reg8Code r)] ∧
      exec (Form.incR r).instr s = .next (((s.set8 r (byteOf ((s.get8 r).toNat + 1))).setF
        (flagsByte (decide ((s.get8 r).toNat = 255)) false (decide ((s.get8 r).toNat % 16 = 15))
          (s.flag flagC) s.f)).setPc (s.pc + 1))) ∧
    (encode .incIndHl = [0x34] ∧
      exec .incIndHl s = .next (((writeU8 hl (byteOf (v.toNat + 1)) (s.noteRead hl)).setF
        (flagsByte (decide (v.toNat = 255)) false (decide (v.toNat % 16 = 15))
          (s.flag flagC) s.f)).setPc (s.pc + 1))) ∧
    (∀ r : Reg8, encode (Form.decR r).instr = [byteOf (0x05 + 8 * reg8Code r)] ∧
      exec (Form.decR r).instr s = .next (((s.set8 r (byteOf ((s.get8 r).toNat + 255))).setF
        (flagsByte (decide ((s.get8 r).toNat = 1)) true (decide ((s.get8 r).toNat % 16 = 0))
          (s.flag flagC) s.f)).setPc (s.pc + 1))) ∧
    (encode .decIndHl = [0x35] ∧
      exec .decIndHl s = .next (((writeU8 hl (byteOf (v.toNat + 255)) (s.noteRead hl)).setF
        (flagsByte (decide (v.toNat = 1)) true (decide (v.toNat % 16 = 0))
          (s.flag flagC) s.f)).setPc (s.pc + 1)))

/-- DAA as arithmetic on A's number: 0x60 and 0x06 added or subtracted by N, H, C and A; N unchanged, H
cleared, C set or kept, never cleared (42_alu8 R154). -/
def Obligations.DaaAdjusts : Prop :=
  ∀ s : State, let a := s.a.toNat
    let high := s.flag flagC || (!(s.flag flagN) && decide (a > 0x99))
    let low := s.flag flagH || (!(s.flag flagN) && decide (a % 16 > 9))
    let d := (if high then 0x60 else 0) + (if low then 0x06 else 0)
    let r := if s.flag flagN then (a + 512 - d) % 256 else (a + d) % 256
    encode .daa = [0x27] ∧
    exec .daa s = .next (((s.set8 .a (byteOf r)).setF
      (flagsByte (decide (r = 0)) (s.flag flagN) false high s.f)).setPc (s.pc + 1))

/-- CPL, SCF and CCF (42_alu8 R155 to R157). -/
def Obligations.CplScfCcf : Prop :=
  ∀ s : State,
    (encode .cpl = [0x2F] ∧ exec .cpl s = .next (((s.set8 .a (byteOf (255 - s.a.toNat))).setF
      (flagsByte (s.flag flagZ) true true (s.flag flagC) s.f)).setPc (s.pc + 1))) ∧
    (encode .scf = [0x37] ∧ exec .scf s =
      .next ((s.setF (flagsByte (s.flag flagZ) false false true s.f)).setPc (s.pc + 1))) ∧
    (encode .ccf = [0x3F] ∧ exec .ccf s =
      .next ((s.setF (flagsByte (s.flag flagZ) false false (!(s.flag flagC)) s.f)).setPc (s.pc + 1)))

/-! ### 16-bit arithmetic -/

/-- INC rr and DEC rr wrap and write no flag (43_alu16 R158, R159). -/
def Obligations.IncDecPairs : Prop :=
  ∀ (p : Rp) (s : State),
    (encode (Form.incRp p).instr = [byteOf (0x03 + 16 * rpCode p)] ∧ exec (Form.incRp p).instr s =
      .next ((s.set16 p.reg (BitVec.ofNat 16 ((s.get16 p.reg).toNat + 1))).setPc (s.pc + 1))) ∧
    (encode (Form.decRp p).instr = [byteOf (0x0B + 16 * rpCode p)] ∧ exec (Form.decRp p).instr s =
      .next ((s.set16 p.reg (BitVec.ofNat 16 ((s.get16 p.reg).toNat + 65535))).setPc (s.pc + 1)))

/-- ADD HL,rr: N = 0, H out of bit 7 or bit 11 by P4, C out of bit 15, Z written or kept by P5
(43_alu16 R160). -/
def Obligations.AddHlPair : Prop :=
  ∀ (p : Rp) (s : State) (h z : Bool),
    let x := (cat s.h s.l).toNat
    let y := (s.get16 p.reg).toNat
    (s.config.h16Mask = .m0100 → h = decide (x % 256 + y % 256 > 255)) →
    (s.config.h16Mask = .m1000 → h = decide (x % 4096 + y % 4096 > 4095)) →
    (s.config.z16Add = .write → z = decide ((x + y) % 65536 = 0)) →
    (s.config.z16Add = .keep → z = s.flag flagZ) →
    encode (Form.addHlRp p).instr = [byteOf (0x09 + 16 * rpCode p)] ∧
    exec (Form.addHlRp p).instr s = .next (((s.set16 .hl (BitVec.ofNat 16 (x + y))).setF
      (flagsByte z false h (decide (x + y > 65535)) s.f)).setPc (s.pc + 1))

/-- ADD SP,e8: the sum with the sign-extended offset; Z = N = 0, and H and C are the carries of the unsigned
low-byte add (43_alu16 R161). -/
def Obligations.AddSpOffset : Prop :=
  ∀ (e : Byte) (s : State), encode (.addSpE8 e) = [0xE8, e] ∧ RunsFetched (.addSpE8 e) s ∧
    exec (.addSpE8 e) s = .next (((s.setSp (s.sp + e.signExtend 16)).setF
      (flagsByte false false (decide (s.sp.toNat % 16 + e.toNat % 16 > 15))
        (decide (s.sp.toNat % 256 + e.toNat > 255)) s.f)).setPc (s.pc + 2))

/-! ### Rotates, shifts and bits -/

/-- RLCA, RRCA, RLA and RRA: Z is 0 whatever the result (44_rotate_shift_bit R162 to R165). -/
def Obligations.RotatesOfA : Prop :=
  ∀ s : State,
    (encode .rlca = [0x07] ∧ exec .rlca s = .next (((s.set8 .a (closedRot .rlc s.a (s.flag flagC))).setF
      (flagsByte false false false (closedRotCarry .rlc s.a) s.f)).setPc (s.pc + 1))) ∧
    (encode .rrca = [0x0F] ∧ exec .rrca s = .next (((s.set8 .a (closedRot .rrc s.a (s.flag flagC))).setF
      (flagsByte false false false (closedRotCarry .rrc s.a) s.f)).setPc (s.pc + 1))) ∧
    (encode .rla = [0x17] ∧ exec .rla s = .next (((s.set8 .a (closedRot .rl s.a (s.flag flagC))).setF
      (flagsByte false false false (closedRotCarry .rl s.a) s.f)).setPc (s.pc + 1))) ∧
    (encode .rra = [0x1F] ∧ exec .rra s = .next (((s.set8 .a (closedRot .rr s.a (s.flag flagC))).setF
      (flagsByte false false false (closedRotCarry .rr s.a) s.f)).setPc (s.pc + 1)))

/-- RLC, RRC, RL, RR, SLA, SRA, SWAP and SRL of a register, as arithmetic on its number; Z from the result
(44_rotate_shift_bit R166, R168, R170, R172, R174, R176, R178, R180). -/
def Obligations.RotatesOfRegister : Prop :=
  ∀ (op : RotOp) (r : Reg8) (s : State), let k := closedRot op (s.get8 r) (s.flag flagC)
    encode (Form.rotR op r).instr = [0xCB, byteOf (8 * rotCode op + reg8Code r)] ∧
    exec (Form.rotR op r).instr s = .next (((s.set8 r k).setF
      (flagsByte (decide (k.toNat = 0)) false false (closedRotCarry op (s.get8 r)) s.f)).setPc (s.pc + 2))

/-- The same operations on the byte at HL: one read and one write of it (44_rotate_shift_bit R167, R169,
R171, R173, R175, R177, R179, R181). -/
def Obligations.RotatesOfIndHl : Prop :=
  ∀ (op : RotOp) (s : State), let hl := (cat s.h s.l).toNat
    let k := closedRot op (s.peek hl) (s.flag flagC)
    encode (Form.rotIndHl op).instr = [0xCB, byteOf (8 * rotCode op + 6)] ∧
    exec (Form.rotIndHl op).instr s = .next (((writeU8 hl k (s.noteRead hl)).setF
      (flagsByte (decide (k.toNat = 0)) false false (closedRotCarry op (s.peek hl)) s.f)).setPc (s.pc + 2))

/-- BIT b,r and BIT b,(HL): Z is the complement of the bit, N = 0, H = 1, C kept, and the operand is not
written (44_rotate_shift_bit R182, R183). -/
def Obligations.BitTests : Prop :=
  ∀ (b : Nat) (s : State), b < 8 → let hl := (cat s.h s.l).toNat
    (∀ r : Reg8, encode (Form.bitR b r).instr = [0xCB, byteOf (0x40 + 8 * b + reg8Code r)] ∧
      exec (Form.bitR b r).instr s = .next ((s.setF (flagsByte
        (decide ((s.get8 r).toNat / 2 ^ b % 2 = 0)) false true (s.flag flagC) s.f)).setPc (s.pc + 2))) ∧
    (encode (.bitIndHl b) = [0xCB, byteOf (0x46 + 8 * b)] ∧
      exec (.bitIndHl b) s = .next (((s.noteRead hl).setF (flagsByte
        (decide ((s.peek hl).toNat / 2 ^ b % 2 = 0)) false true (s.flag flagC) s.f)).setPc (s.pc + 2)))

/-- RES and SET of a register and of the byte at HL: bit b becomes 0 or 1, the other bits keep their value,
and no flag is written (44_rotate_shift_bit R184 to R187). -/
def Obligations.BitResetsAndSets : Prop :=
  ∀ (b : Nat) (s : State), b < 8 → let hl := (cat s.h s.l).toNat
    let cleared := fun v : Byte => byteOf (v.toNat - v.toNat / 2 ^ b % 2 * 2 ^ b)
    let raised := fun v : Byte => byteOf (v.toNat + (1 - v.toNat / 2 ^ b % 2) * 2 ^ b)
    (∀ r : Reg8, encode (Form.resR b r).instr = [0xCB, byteOf (0x80 + 8 * b + reg8Code r)] ∧
      exec (Form.resR b r).instr s = .next ((s.set8 r (cleared (s.get8 r))).setPc (s.pc + 2))) ∧
    (encode (.resIndHl b) = [0xCB, byteOf (0x86 + 8 * b)] ∧ exec (.resIndHl b) s =
      .next ((writeU8 hl (cleared (s.peek hl)) (s.noteRead hl)).setPc (s.pc + 2))) ∧
    (∀ r : Reg8, encode (Form.setR b r).instr = [0xCB, byteOf (0xC0 + 8 * b + reg8Code r)] ∧
      exec (Form.setR b r).instr s = .next ((s.set8 r (raised (s.get8 r))).setPc (s.pc + 2))) ∧
    (encode (.setIndHl b) = [0xCB, byteOf (0xC6 + 8 * b)] ∧ exec (.setIndHl b) s =
      .next ((writeU8 hl (raised (s.peek hl)) (s.noteRead hl)).setPc (s.pc + 2)))

/-! ### Control flow -/

/-- The nine conditions, from the bits of F, and the four that have an encoding (45_control R188; 30_encoding
R62). -/
def Obligations.ConditionsReadFlags : Prop :=
  (∀ cc : Cc, ccOf (ccCode cc) = cc) ∧
  (Cc.nz.cond = .nz ∧ Cc.z.cond = .z ∧ Cc.nc.cond = .nc ∧ Cc.c.cond = .c) ∧
  ∀ f : Byte, condHolds .always f = true ∧
    (condHolds .nz f = true ↔ f.toNat / 128 = 0) ∧ (condHolds .z f = true ↔ f.toNat / 128 = 1) ∧
    (condHolds .nn f = true ↔ f.toNat / 64 % 2 = 0) ∧ (condHolds .n f = true ↔ f.toNat / 64 % 2 = 1) ∧
    (condHolds .nh f = true ↔ f.toNat / 32 % 2 = 0) ∧ (condHolds .h f = true ↔ f.toNat / 32 % 2 = 1) ∧
    (condHolds .nc f = true ↔ f.toNat / 16 % 2 = 0) ∧ (condHolds .c f = true ↔ f.toNat / 16 % 2 = 1)

/-- JP n16, JP HL, JP cc,n16, JR e8 and JR cc,e8: PC and nothing else changes; a relative target is the
address after the instruction plus the sign-extended offset (45_control R189 to R193). -/
def Obligations.JumpsSetPc : Prop :=
  ∀ (s : State) (w : Word) (e : Byte) (cc : Cc),
    (encode (.jpN16 w) = [0xC3, lo w, hi w] ∧ exec (.jpN16 w) s = .next (s.setPc w) ∧
      RunsFetched (.jpN16 w) s) ∧
    (encode .jpHl = [0xE9] ∧ exec .jpHl s = .next (s.setPc (cat s.h s.l))) ∧
    (encode (Form.jpCc cc w).instr = [byteOf (0xC2 + 8 * ccCode cc), lo w, hi w] ∧
      exec (Form.jpCc cc w).instr s =
        .next (s.setPc (if condHolds cc.cond s.f = true then w else s.pc + 3)) ∧
      RunsFetched (Form.jpCc cc w).instr s) ∧
    (encode (.jrE8 e) = [0x18, e] ∧ exec (.jrE8 e) s = .next (s.setPc (s.pc + 2 + e.signExtend 16)) ∧
      RunsFetched (.jrE8 e) s) ∧
    (encode (Form.jrCc cc e).instr = [byteOf (0x20 + 8 * ccCode cc), e] ∧
      exec (Form.jrCc cc e).instr s =
        .next (s.setPc (if condHolds cc.cond s.f = true then s.pc + 2 + e.signExtend 16 else s.pc + 2)) ∧
      RunsFetched (Form.jrCc cc e).instr s)

/-- CALL n16, CALL cc,n16 and RST t push the address of the next instruction and jump; an untaken call
writes nothing but PC (45_control R194, R195, R199). -/
def Obligations.CallsPushNext : Prop :=
  ∀ (s : State) (w : Word),
    (encode (.callN16 w) = [0xCD, lo w, hi w] ∧
      exec (.callN16 w) s = .next ((push16 (s.pc + 3) s).setPc w) ∧ RunsFetched (.callN16 w) s) ∧
    (∀ cc : Cc, encode (Form.callCc cc w).instr = [byteOf (0xC4 + 8 * ccCode cc), lo w, hi w] ∧
      RunsFetched (Form.callCc cc w).instr s ∧
      (condHolds cc.cond s.f = true →
        exec (Form.callCc cc w).instr s = .next ((push16 (s.pc + 3) s).setPc w)) ∧
      (condHolds cc.cond s.f = false → exec (Form.callCc cc w).instr s = .next (s.setPc (s.pc + 3)))) ∧
    (∀ t : Fin 8, encode (Form.rst t).instr = [byteOf (0xC7 + 8 * t.val)] ∧
      exec (Form.rst t).instr s = .next ((push16 (s.pc + 1) s).setPc (BitVec.ofNat 16 (8 * t.val))))

/-- RET, RET cc and RETI pop the target; an untaken return reads nothing and changes only PC; RETI is RET
(45_control R196 to R198). -/
def Obligations.ReturnsPopTarget : Prop :=
  ∀ s : State,
    (encode .ret = [0xC9] ∧ exec .ret s = .next ((pop16 s).2.setPc (pop16 s).1)) ∧
    (∀ cc : Cc, encode (Form.retCc cc).instr = [byteOf (0xC0 + 8 * ccCode cc)] ∧
      (condHolds cc.cond s.f = true →
        exec (Form.retCc cc).instr s = .next ((pop16 s).2.setPc (pop16 s).1)) ∧
      (condHolds cc.cond s.f = false → exec (Form.retCc cc).instr s = .next (s.setPc (s.pc + 1)))) ∧
    (encode .reti = [0xD9] ∧ exec .reti s = .next ((pop16 s).2.setPc (pop16 s).1))

/-- With the two stack bytes in range, CALL followed by RET comes back to the instruction after the CALL
with SP restored and only those two bytes changed (45_control R194, R196). -/
def Obligations.ReturnFollowsCall : Prop :=
  ∀ (s t : State) (w base : Word),
    (s.config.stackDir = .up → base = s.sp) → (s.config.stackDir = .down → base = s.sp - 2) →
    s.inRange base.toNat = true → s.inRange (secondAddr s.config base) = true →
    exec (.callN16 w) s = .next t →
    t.pc = w ∧ exec .ret t = .next ((writeU16 base (s.pc + 3) s).setPc (s.pc + 3))

/-! ### Miscellaneous -/

/-- NOP, DI and EI change PC alone, modulo 2^16, and a step on one raises UnimplementedInstruction only if
P8 leaves its key out (46_misc R200, R203, R204). -/
def Obligations.NopDiEiOnlyAdvance : Prop :=
  (encode .nop = [0x00] ∧ encode .di = [0xF3] ∧ encode .ei = [0xFB]) ∧
  (∀ s : State, exec .nop s = .next (s.setPc (s.pc + 1)) ∧ exec .di s = .next (s.setPc (s.pc + 1)) ∧
    exec .ei s = .next (s.setPc (s.pc + 1))) ∧
  (∀ (s : State) (op : Byte), op = 0x00 ∨ op = 0xF3 ∨ op = 0xFB → s.status = .running →
    s.peek s.pc.toNat = op →
    (s.config.implements (.primary op) = true →
      step s = .next ((s.setLog (s.fetchEvents 1)).setPc (s.pc + 1))) ∧
    (s.config.implements (.primary op) = false →
      step s = .next ((s.setLog (s.fetchEvents 1)).setStatus
        (.faulted .unimplementedInstruction (.primary op) s.pc))))

/-- HALT and STOP always raise UnimplementedInstruction, under every P8, and STOP's second byte is not read
(46_misc R201, R202). -/
def Obligations.HaltAndStopRaise : Prop :=
  ∀ s : State,
    (encode .halt = [0x76] ∧ (encode .stop).head? = some 0x10 ∧ (encode .stop).length = 2) ∧
    (∀ c : Config, c.implements (.primary 0x76) = false ∧ c.implements (.primary 0x10) = false) ∧
    exec .halt s =
      .next (s.setStatus (.faulted .unimplementedInstruction (.primary 0x76) s.pc)) ∧
    exec .stop s =
      .next (s.setStatus (.faulted .unimplementedInstruction (.primary 0x10) s.pc)) ∧
    (s.status = .running → s.peek s.pc.toNat = 0x76 → step s = .next ((s.setLog (s.fetchEvents 1)).setStatus
      (.faulted .unimplementedInstruction (.primary 0x76) s.pc))) ∧
    (s.status = .running → s.peek s.pc.toNat = 0x10 → step s = .next ((s.setLog (s.fetchEvents 1)).setStatus
      (.faulted .unimplementedInstruction (.primary 0x10) s.pc)))

/-! ### Frames, over every instruction -/

/-- No instruction changes a byte of memory outside the addresses its rule stores to, which are computed
from the state before it; an instruction that stores nothing changes none (20_memory R43). -/
def Obligations.StoresStayInTheirAddresses : Prop :=
  ∀ (i : Instr) (s t : State), exec i s = .next t →
    ∀ k : Nat, k ∉ formStores i.form s → t.peek k = s.peek k

/-- Every instruction answers a next state in which the 8-bit registers it does not name, SP unless its rule
writes it, the parameters, and `status` unless it is HALT or STOP are as before (10_state R18, R19;
70_reset_and_hazards R221; 60_exceptions R208). -/
def Obligations.RegistersOutsideTheRuleAreKept : Prop :=
  ∀ (i : Instr) (s : State), ∃ t : State, exec i s = .next t ∧
    (∀ r : Reg8, r ∉ formDest8 i.form → t.get8 r = s.get8 r) ∧
    (formWritesSp i.form = false → t.sp = s.sp) ∧
    (i ≠ .halt → i ≠ .stop → t.status = s.status) ∧ t.config = s.config

/-- No instruction changes a bit of F that its rule does not write (10_state R23, R27). -/
def Obligations.FlagsOutsideTheRuleAreKept : Prop :=
  ∀ (i : Instr) (s t : State), exec i s = .next t →
    ∀ b : FlagBit, b ∉ formFlagBits s.config i.form → t.flag b = s.flag b

/-- Every instruction that does not branch or raise leaves PC at the byte after its encoding, and HALT and
STOP leave PC where it was (30_encoding R90, R91). -/
def Obligations.PcAdvancesByLength : Prop :=
  ∀ (i : Instr) (s t : State), i.wellFormed = true → exec i s = .next t →
    (formLeavesLine i.form s.f = false → t.pc = s.pc + BitVec.ofNat 16 (encode i).length) ∧
    (i = .halt ∨ i = .stop → t.pc = s.pc)

/-- Bits 3..0 of F are inert: only POP AF changes them; any other value of them leaves every instruction but
PUSH AF and POP AF with the same effect; POP AF's result does not depend on them at all, and PUSH AF's
depends on them only in the low byte it stores (10_state R23). -/
def Obligations.LowFlagBitsAreInert : Prop :=
  ∀ (i : Instr) (s t : State) (x : Byte), exec i s = .next t →
    (i ≠ .popAf → ∀ k : FlagBit, k.val < 4 → t.flag k = s.flag k) ∧
    (i ≠ .pushAf → i ≠ .popAf → exec i (s.withLowF x) = .next (t.withLowF x)) ∧
    (i = .popAf → exec i (s.withLowF x) = .next t) ∧
    (i = .pushAf → exec i (s.withLowF x) =
      .next ((push16 (cat s.a (s.withLowF x).f) (s.withLowF x)).setPc t.pc))

/-! ### Launch, invariants and memory over steps -/

/-- A launch takes every register from INIT, F as written, status Running, memory from MEM_INIT, and
fetches first at INIT.PC; the reset state is the launch with PC = 0x0000 and the default parameters, whose
other registers are the model's choice, none of them zero (70_reset_and_hazards R218, R219; 10_state R34;
log entries 1 and 2). -/
def Obligations.LaunchTakesInit : Prop :=
  (∀ (c : Config) (x : Init) (m : Memory), let s := State.launch c x m
    s.a = x.a ∧ s.f = x.f ∧ s.b = x.b ∧ s.c = x.c ∧ s.d = x.d ∧ s.e = x.e ∧ s.h = x.h ∧ s.l = x.l ∧
    s.sp = x.sp ∧ s.pc = x.pc ∧ s.status = .running ∧ s.mem = m ∧ s.config = c ∧
    s.fetchAddrs.head? = some x.pc.toNat) ∧
  (State.reset.pc = 0x0000 ∧ State.reset.status = .running ∧ State.reset.config = Config.default ∧
    (∀ r : Reg8, State.reset.get8 r ≠ 0) ∧ State.reset.f ≠ 0 ∧ State.reset.sp ≠ 0)

/-- The reset state meets the invariant, and so does every launch with parameters in their domains and a
canonical image of backed bytes (the invariant is the model's; 70_reset_and_hazards R221). -/
def Obligations.LaunchMeetsInvariant : Prop :=
  State.reset.Inv ∧
  ∀ (c : Config) (x : Init) (m : Memory), c.valid = true → Memory.wf m = true →
    (∀ cell ∈ m, cell.1 < c.memSize) → (State.launch c x m).Inv

/-- Every step keeps the invariant and the parameters: memory stays canonical and backed, P1 stays in its
domain, and a recorded error is a true one at PC (20_memory R37; 60_exceptions R206;
70_reset_and_hazards R221). -/
def Obligations.StepKeepsInvariant : Prop :=
  ∀ s t : State, s.Inv → step s = .next t → t.Inv ∧ t.config = s.config

/-- With the whole space backed and words that wrap, no step makes an out-of-range event (20_memory R36;
60_exceptions R210). -/
def Obligations.BackedSpaceHasNoEvents : Prop :=
  ∀ s t : State, s.config.allBacked → step s = .next t → t.log = []

/-- A store over its own opcode runs as fetched and is seen by the next fetch: LD (HL),n8 with HL = PC
completes, PC moves past it, and the byte at the old PC is n (20_memory R53; 70_reset_and_hazards R223). -/
def Obligations.StoreOverOwnOpcode : Prop :=
  ∀ (s : State) (n : Byte), s.status = .running → s.config.allBacked →
    s.config.implements (.primary 0x36) = true → s.peek s.pc.toNat = 0x36 →
    s.peek (s.pc + 1).toNat = n → cat s.h s.l = s.pc →
    ∃ t : State, step s = .next t ∧ t.pc = s.pc + 2 ∧ (t.setPc s.pc).window.head? = some n ∧
      ∀ k : Nat, k ≠ s.pc.toNat → t.peek k = s.peek k
end

