-- ==== Sys2Proof/Laws/Encoding.lean ====
section
/-! SUPPORT. Byte order, the two directions between rows and rules, and how the decoder completes each
format. -/

namespace Sys2Proof

/-- Bit i of a joined word (00_scope R10). -/
theorem getLsbD_cat (x y : Byte) (i : Nat) :
    (cat x y).getLsbD i = if i < 8 then y.getLsbD i else x.getLsbD (i - 8) :=
  BitVec.getLsbD_append ..

theorem getLsbD_hi (w : Word) {i : Nat} (h : i < 8) : (hi w).getLsbD i = w.getLsbD (8 + i) := by
  simp [hi, h]

theorem getLsbD_lo (w : Word) {i : Nat} (h : i < 8) : (lo w).getLsbD i = w.getLsbD i := by
  simp [lo, h]

@[simp] theorem hi_cat (x y : Byte) : hi (cat x y) = x := by
  apply BitVec.eq_of_getLsbD_eq
  intro i h
  rw [getLsbD_hi _ h, getLsbD_cat, if_neg (by omega), Nat.add_sub_cancel_left]

@[simp] theorem lo_cat (x y : Byte) : lo (cat x y) = y := by
  apply BitVec.eq_of_getLsbD_eq
  intro i h
  rw [getLsbD_lo _ h, getLsbD_cat, if_pos h]

@[simp] theorem cat_hi_lo (w : Word) : cat (hi w) (lo w) = w := by
  apply BitVec.eq_of_getLsbD_eq
  intro i h
  rw [getLsbD_cat]
  split
  · rw [getLsbD_lo _ (by assumption)]
  · rw [getLsbD_hi _ (by omega), show 8 + (i - 8) = i by omega]

/-- A word is determined by its two bytes. -/
theorem word_ext {v w : Word} (high : hi v = hi w) (low : lo v = lo w) : v = w := by
  rw [← cat_hi_lo v, ← cat_hi_lo w, high, low]

/-- Every row is the row of its rule and fields. -/
@[simp] theorem form_instr (i : Instr) : i.form.instr = i := by
  cases i <;> rfl

/-- Every rule with its fields is the rule of its row. -/
@[simp] theorem instr_form (x : Form) : x.instr.form = x := by
  cases x with
  | ldRR dst src => cases dst <;> cases src <;> rfl
  | aluR op r => cases op <;> cases r <;> rfl
  | rotR op r => cases op <;> cases r <;> rfl
  | rst t => revert t; decide
  | bitR k r => cases r <;> rfl
  | resR k r => cases r <;> rfl
  | setR k r => cases r <;> rfl
  | ldRN8 r n => cases r <;> rfl
  | ldRIndHl r => cases r <;> rfl
  | ldIndHlR r => cases r <;> rfl
  | incR r => cases r <;> rfl
  | decR r => cases r <;> rfl
  | ldRpN16 p w => cases p <;> rfl
  | incRp p => cases p <;> rfl
  | decRp p => cases p <;> rfl
  | addHlRp p => cases p <;> rfl
  | push p => cases p <;> rfl
  | pop p => cases p <;> rfl
  | aluIndHl op => cases op <;> rfl
  | aluN8 op n => cases op <;> rfl
  | rotIndHl op => cases op <;> rfl
  | jpCc cc w => cases cc <;> rfl
  | jrCc cc e => cases cc <;> rfl
  | callCc cc w => cases cc <;> rfl
  | retCc cc => cases cc <;> rfl
  | _ => rfl

/-- To prove a fact of every row, prove it of every rule. -/
theorem forall_instr {P : Instr → Prop} (h : ∀ x : Form, P x.instr) (i : Instr) : P i := by
  have := h i.form
  rwa [form_instr] at this

/-- A first byte that takes an immediate word completes with the word, whatever follows. -/
theorem decode_word {op : Byte} {mk : Word → Form} (h : primaryEntry op = .f3 mk) (w : Word)
    (rest : List Byte) : decode (encodeWord op w ++ rest) = .ok ((mk w).instr, rest) := by
  simp [decode, encodeWord, h, Entry.complete]

/-- A first byte that takes an immediate byte completes with the byte, whatever follows. -/
theorem decode_byte {op : Byte} {mk : Byte → Form} (h : primaryEntry op = .f2 mk) (n : Byte)
    (rest : List Byte) : decode (op :: n :: rest) = .ok ((mk n).instr, rest) := by
  simp [decode, h, Entry.complete]

/-- The escape byte and a second byte complete through the escape table. -/
theorem decode_escape (op2 : Byte) (rest : List Byte) :
    decode (escapeByte :: op2 :: rest) = .ok ((escapedForm op2).instr, rest) := rfl

/-- An escape row with a free bit number decodes at every bit number it admits. -/
theorem decode_bit {base : Byte} {mk : Nat → Instr}
    (h : ∀ b < 8, (escapedForm (base + BitVec.ofNat 8 (8 * b))).instr = mk b) {b : Nat}
    (hb : bitNumberOk b = true) (rest : List Byte) :
    decode (encodeBit base b ++ rest) = .ok (mk b, rest) := by
  have hb' : b < 8 := of_decide_eq_true hb
  rw [← h b hb']
  rfl

end Sys2Proof
end

