-- ==== Sys2Proof/Laws/State.lean ====
section
/-! SUPPORT. One lemma per field for each named update of the state, and the laws of the register accessors,
so that no proof unfolds a record update. -/

namespace Sys2Proof.Machine

/-! ### setF -/

@[simp] theorem setF_a (v : Byte) (s : State) : (s.setF v).a = s.a := rfl
@[simp] theorem setF_f (v : Byte) (s : State) : (s.setF v).f = v := rfl
@[simp] theorem setF_b (v : Byte) (s : State) : (s.setF v).b = s.b := rfl
@[simp] theorem setF_c (v : Byte) (s : State) : (s.setF v).c = s.c := rfl
@[simp] theorem setF_d (v : Byte) (s : State) : (s.setF v).d = s.d := rfl
@[simp] theorem setF_e (v : Byte) (s : State) : (s.setF v).e = s.e := rfl
@[simp] theorem setF_h (v : Byte) (s : State) : (s.setF v).h = s.h := rfl
@[simp] theorem setF_l (v : Byte) (s : State) : (s.setF v).l = s.l := rfl
@[simp] theorem setF_sp (v : Byte) (s : State) : (s.setF v).sp = s.sp := rfl
@[simp] theorem setF_pc (v : Byte) (s : State) : (s.setF v).pc = s.pc := rfl
@[simp] theorem setF_status (v : Byte) (s : State) : (s.setF v).status = s.status := rfl
@[simp] theorem setF_mem (v : Byte) (s : State) : (s.setF v).mem = s.mem := rfl
@[simp] theorem setF_config (v : Byte) (s : State) : (s.setF v).config = s.config := rfl
@[simp] theorem setF_log (v : Byte) (s : State) : (s.setF v).log = s.log := rfl

/-! ### setSp -/

@[simp] theorem setSp_a (v : Word) (s : State) : (s.setSp v).a = s.a := rfl
@[simp] theorem setSp_f (v : Word) (s : State) : (s.setSp v).f = s.f := rfl
@[simp] theorem setSp_b (v : Word) (s : State) : (s.setSp v).b = s.b := rfl
@[simp] theorem setSp_c (v : Word) (s : State) : (s.setSp v).c = s.c := rfl
@[simp] theorem setSp_d (v : Word) (s : State) : (s.setSp v).d = s.d := rfl
@[simp] theorem setSp_e (v : Word) (s : State) : (s.setSp v).e = s.e := rfl
@[simp] theorem setSp_h (v : Word) (s : State) : (s.setSp v).h = s.h := rfl
@[simp] theorem setSp_l (v : Word) (s : State) : (s.setSp v).l = s.l := rfl
@[simp] theorem setSp_sp (v : Word) (s : State) : (s.setSp v).sp = v := rfl
@[simp] theorem setSp_pc (v : Word) (s : State) : (s.setSp v).pc = s.pc := rfl
@[simp] theorem setSp_status (v : Word) (s : State) : (s.setSp v).status = s.status := rfl
@[simp] theorem setSp_mem (v : Word) (s : State) : (s.setSp v).mem = s.mem := rfl
@[simp] theorem setSp_config (v : Word) (s : State) : (s.setSp v).config = s.config := rfl
@[simp] theorem setSp_log (v : Word) (s : State) : (s.setSp v).log = s.log := rfl

/-! ### setPc -/

@[simp] theorem setPc_a (v : Word) (s : State) : (s.setPc v).a = s.a := rfl
@[simp] theorem setPc_f (v : Word) (s : State) : (s.setPc v).f = s.f := rfl
@[simp] theorem setPc_b (v : Word) (s : State) : (s.setPc v).b = s.b := rfl
@[simp] theorem setPc_c (v : Word) (s : State) : (s.setPc v).c = s.c := rfl
@[simp] theorem setPc_d (v : Word) (s : State) : (s.setPc v).d = s.d := rfl
@[simp] theorem setPc_e (v : Word) (s : State) : (s.setPc v).e = s.e := rfl
@[simp] theorem setPc_h (v : Word) (s : State) : (s.setPc v).h = s.h := rfl
@[simp] theorem setPc_l (v : Word) (s : State) : (s.setPc v).l = s.l := rfl
@[simp] theorem setPc_sp (v : Word) (s : State) : (s.setPc v).sp = s.sp := rfl
@[simp] theorem setPc_pc (v : Word) (s : State) : (s.setPc v).pc = v := rfl
@[simp] theorem setPc_status (v : Word) (s : State) : (s.setPc v).status = s.status := rfl
@[simp] theorem setPc_mem (v : Word) (s : State) : (s.setPc v).mem = s.mem := rfl
@[simp] theorem setPc_config (v : Word) (s : State) : (s.setPc v).config = s.config := rfl
@[simp] theorem setPc_log (v : Word) (s : State) : (s.setPc v).log = s.log := rfl

/-! ### setStatus -/

@[simp] theorem setStatus_a (v : Status) (s : State) : (s.setStatus v).a = s.a := rfl
@[simp] theorem setStatus_f (v : Status) (s : State) : (s.setStatus v).f = s.f := rfl
@[simp] theorem setStatus_b (v : Status) (s : State) : (s.setStatus v).b = s.b := rfl
@[simp] theorem setStatus_c (v : Status) (s : State) : (s.setStatus v).c = s.c := rfl
@[simp] theorem setStatus_d (v : Status) (s : State) : (s.setStatus v).d = s.d := rfl
@[simp] theorem setStatus_e (v : Status) (s : State) : (s.setStatus v).e = s.e := rfl
@[simp] theorem setStatus_h (v : Status) (s : State) : (s.setStatus v).h = s.h := rfl
@[simp] theorem setStatus_l (v : Status) (s : State) : (s.setStatus v).l = s.l := rfl
@[simp] theorem setStatus_sp (v : Status) (s : State) : (s.setStatus v).sp = s.sp := rfl
@[simp] theorem setStatus_pc (v : Status) (s : State) : (s.setStatus v).pc = s.pc := rfl
@[simp] theorem setStatus_status (v : Status) (s : State) : (s.setStatus v).status = v := rfl
@[simp] theorem setStatus_mem (v : Status) (s : State) : (s.setStatus v).mem = s.mem := rfl
@[simp] theorem setStatus_config (v : Status) (s : State) : (s.setStatus v).config = s.config := rfl
@[simp] theorem setStatus_log (v : Status) (s : State) : (s.setStatus v).log = s.log := rfl

/-! ### setLog -/

@[simp] theorem setLog_a (v : List OobEvent) (s : State) : (s.setLog v).a = s.a := rfl
@[simp] theorem setLog_f (v : List OobEvent) (s : State) : (s.setLog v).f = s.f := rfl
@[simp] theorem setLog_b (v : List OobEvent) (s : State) : (s.setLog v).b = s.b := rfl
@[simp] theorem setLog_c (v : List OobEvent) (s : State) : (s.setLog v).c = s.c := rfl
@[simp] theorem setLog_d (v : List OobEvent) (s : State) : (s.setLog v).d = s.d := rfl
@[simp] theorem setLog_e (v : List OobEvent) (s : State) : (s.setLog v).e = s.e := rfl
@[simp] theorem setLog_h (v : List OobEvent) (s : State) : (s.setLog v).h = s.h := rfl
@[simp] theorem setLog_l (v : List OobEvent) (s : State) : (s.setLog v).l = s.l := rfl
@[simp] theorem setLog_sp (v : List OobEvent) (s : State) : (s.setLog v).sp = s.sp := rfl
@[simp] theorem setLog_pc (v : List OobEvent) (s : State) : (s.setLog v).pc = s.pc := rfl
@[simp] theorem setLog_status (v : List OobEvent) (s : State) : (s.setLog v).status = s.status := rfl
@[simp] theorem setLog_mem (v : List OobEvent) (s : State) : (s.setLog v).mem = s.mem := rfl
@[simp] theorem setLog_config (v : List OobEvent) (s : State) : (s.setLog v).config = s.config := rfl
@[simp] theorem setLog_log (v : List OobEvent) (s : State) : (s.setLog v).log = v := rfl

/-! ### noteEvent and noteRead -/

@[simp] theorem noteEvent_a (x : OobEvent) (s : State) : (s.noteEvent x).a = s.a := rfl
@[simp] theorem noteEvent_f (x : OobEvent) (s : State) : (s.noteEvent x).f = s.f := rfl
@[simp] theorem noteEvent_b (x : OobEvent) (s : State) : (s.noteEvent x).b = s.b := rfl
@[simp] theorem noteEvent_c (x : OobEvent) (s : State) : (s.noteEvent x).c = s.c := rfl
@[simp] theorem noteEvent_d (x : OobEvent) (s : State) : (s.noteEvent x).d = s.d := rfl
@[simp] theorem noteEvent_e (x : OobEvent) (s : State) : (s.noteEvent x).e = s.e := rfl
@[simp] theorem noteEvent_h (x : OobEvent) (s : State) : (s.noteEvent x).h = s.h := rfl
@[simp] theorem noteEvent_l (x : OobEvent) (s : State) : (s.noteEvent x).l = s.l := rfl
@[simp] theorem noteEvent_sp (x : OobEvent) (s : State) : (s.noteEvent x).sp = s.sp := rfl
@[simp] theorem noteEvent_pc (x : OobEvent) (s : State) : (s.noteEvent x).pc = s.pc := rfl
@[simp] theorem noteEvent_status (x : OobEvent) (s : State) : (s.noteEvent x).status = s.status := rfl
@[simp] theorem noteEvent_mem (x : OobEvent) (s : State) : (s.noteEvent x).mem = s.mem := rfl
@[simp] theorem noteEvent_config (x : OobEvent) (s : State) : (s.noteEvent x).config = s.config := rfl
@[simp] theorem noteEvent_log (x : OobEvent) (s : State) : (s.noteEvent x).log = s.log ++ [x] := rfl

@[simp] theorem noteRead_a (n : Nat) (s : State) : (s.noteRead n).a = s.a := by
  unfold State.noteRead; split <;> rfl

@[simp] theorem noteRead_f (n : Nat) (s : State) : (s.noteRead n).f = s.f := by
  unfold State.noteRead; split <;> rfl

@[simp] theorem noteRead_b (n : Nat) (s : State) : (s.noteRead n).b = s.b := by
  unfold State.noteRead; split <;> rfl

@[simp] theorem noteRead_c (n : Nat) (s : State) : (s.noteRead n).c = s.c := by
  unfold State.noteRead; split <;> rfl

@[simp] theorem noteRead_d (n : Nat) (s : State) : (s.noteRead n).d = s.d := by
  unfold State.noteRead; split <;> rfl

@[simp] theorem noteRead_e (n : Nat) (s : State) : (s.noteRead n).e = s.e := by
  unfold State.noteRead; split <;> rfl

@[simp] theorem noteRead_h (n : Nat) (s : State) : (s.noteRead n).h = s.h := by
  unfold State.noteRead; split <;> rfl

@[simp] theorem noteRead_l (n : Nat) (s : State) : (s.noteRead n).l = s.l := by
  unfold State.noteRead; split <;> rfl

@[simp] theorem noteRead_sp (n : Nat) (s : State) : (s.noteRead n).sp = s.sp := by
  unfold State.noteRead; split <;> rfl

@[simp] theorem noteRead_pc (n : Nat) (s : State) : (s.noteRead n).pc = s.pc := by
  unfold State.noteRead; split <;> rfl

@[simp] theorem noteRead_status (n : Nat) (s : State) : (s.noteRead n).status = s.status := by
  unfold State.noteRead; split <;> rfl

@[simp] theorem noteRead_mem (n : Nat) (s : State) : (s.noteRead n).mem = s.mem := by
  unfold State.noteRead; split <;> rfl

@[simp] theorem noteRead_config (n : Nat) (s : State) : (s.noteRead n).config = s.config := by
  unfold State.noteRead; split <;> rfl

/-! ### writeU8 -/

@[simp] theorem writeU8_a (n : Nat) (v : Byte) (s : State) : (writeU8 n v s).a = s.a := by
  unfold writeU8; split <;> rfl

@[simp] theorem writeU8_f (n : Nat) (v : Byte) (s : State) : (writeU8 n v s).f = s.f := by
  unfold writeU8; split <;> rfl

@[simp] theorem writeU8_b (n : Nat) (v : Byte) (s : State) : (writeU8 n v s).b = s.b := by
  unfold writeU8; split <;> rfl

@[simp] theorem writeU8_c (n : Nat) (v : Byte) (s : State) : (writeU8 n v s).c = s.c := by
  unfold writeU8; split <;> rfl

@[simp] theorem writeU8_d (n : Nat) (v : Byte) (s : State) : (writeU8 n v s).d = s.d := by
  unfold writeU8; split <;> rfl

@[simp] theorem writeU8_e (n : Nat) (v : Byte) (s : State) : (writeU8 n v s).e = s.e := by
  unfold writeU8; split <;> rfl

@[simp] theorem writeU8_h (n : Nat) (v : Byte) (s : State) : (writeU8 n v s).h = s.h := by
  unfold writeU8; split <;> rfl

@[simp] theorem writeU8_l (n : Nat) (v : Byte) (s : State) : (writeU8 n v s).l = s.l := by
  unfold writeU8; split <;> rfl

@[simp] theorem writeU8_sp (n : Nat) (v : Byte) (s : State) : (writeU8 n v s).sp = s.sp := by
  unfold writeU8; split <;> rfl

@[simp] theorem writeU8_pc (n : Nat) (v : Byte) (s : State) : (writeU8 n v s).pc = s.pc := by
  unfold writeU8; split <;> rfl

@[simp] theorem writeU8_status (n : Nat) (v : Byte) (s : State) : (writeU8 n v s).status = s.status := by
  unfold writeU8; split <;> rfl

@[simp] theorem writeU8_config (n : Nat) (v : Byte) (s : State) : (writeU8 n v s).config = s.config := by
  unfold writeU8; split <;> rfl

/-! ### set8 and set16 -/

@[simp] theorem set8_f (r : Reg8) (v : Byte) (s : State) : (s.set8 r v).f = s.f := by
  cases r <;> rfl

@[simp] theorem set8_sp (r : Reg8) (v : Byte) (s : State) : (s.set8 r v).sp = s.sp := by
  cases r <;> rfl

@[simp] theorem set8_pc (r : Reg8) (v : Byte) (s : State) : (s.set8 r v).pc = s.pc := by
  cases r <;> rfl

@[simp] theorem set8_status (r : Reg8) (v : Byte) (s : State) : (s.set8 r v).status = s.status := by
  cases r <;> rfl

@[simp] theorem set8_mem (r : Reg8) (v : Byte) (s : State) : (s.set8 r v).mem = s.mem := by
  cases r <;> rfl

@[simp] theorem set8_config (r : Reg8) (v : Byte) (s : State) : (s.set8 r v).config = s.config := by
  cases r <;> rfl

@[simp] theorem set8_log (r : Reg8) (v : Byte) (s : State) : (s.set8 r v).log = s.log := by
  cases r <;> rfl

theorem set8_at_a (v : Byte) (s : State) : s.set8 .a v = { s with a := v } := rfl
theorem set8_at_b (v : Byte) (s : State) : s.set8 .b v = { s with b := v } := rfl
theorem set8_at_c (v : Byte) (s : State) : s.set8 .c v = { s with c := v } := rfl
theorem set8_at_d (v : Byte) (s : State) : s.set8 .d v = { s with d := v } := rfl
theorem set8_at_e (v : Byte) (s : State) : s.set8 .e v = { s with e := v } := rfl
theorem set8_at_h (v : Byte) (s : State) : s.set8 .h v = { s with h := v } := rfl
theorem set8_at_l (v : Byte) (s : State) : s.set8 .l v = { s with l := v } := rfl

@[simp] theorem set16_pc (r : Reg16) (v : Word) (s : State) : (s.set16 r v).pc = s.pc := by
  cases r <;> rfl

@[simp] theorem set16_status (r : Reg16) (v : Word) (s : State) : (s.set16 r v).status = s.status := by
  cases r <;> rfl

@[simp] theorem set16_mem (r : Reg16) (v : Word) (s : State) : (s.set16 r v).mem = s.mem := by
  cases r <;> rfl

@[simp] theorem set16_config (r : Reg16) (v : Word) (s : State) : (s.set16 r v).config = s.config := by
  cases r <;> rfl

@[simp] theorem set16_log (r : Reg16) (v : Word) (s : State) : (s.set16 r v).log = s.log := by
  cases r <;> rfl

theorem set16_at_bc (v : Word) (s : State) :
    s.set16 .bc v = { s with b := hi v, c := lo v } := rfl
theorem set16_at_de (v : Word) (s : State) :
    s.set16 .de v = { s with d := hi v, e := lo v } := rfl
theorem set16_at_hl (v : Word) (s : State) :
    s.set16 .hl v = { s with h := hi v, l := lo v } := rfl
theorem set16_at_sp (v : Word) (s : State) : s.set16 .sp v = { s with sp := v } := rfl
theorem set16_at_af (v : Word) (s : State) :
    s.set16 .af v = { s with a := hi v, f := wholeF s.config.fLow (lo v) } := rfl

@[simp] theorem get8_at_a (s : State) : s.get8 .a = s.a := rfl
@[simp] theorem get8_at_b (s : State) : s.get8 .b = s.b := rfl
@[simp] theorem get8_at_c (s : State) : s.get8 .c = s.c := rfl
@[simp] theorem get8_at_d (s : State) : s.get8 .d = s.d := rfl
@[simp] theorem get8_at_e (s : State) : s.get8 .e = s.e := rfl
@[simp] theorem get8_at_h (s : State) : s.get8 .h = s.h := rfl
@[simp] theorem get8_at_l (s : State) : s.get8 .l = s.l := rfl

@[simp] theorem get16_at_af (s : State) : s.get16 .af = cat s.a s.f := rfl
@[simp] theorem get16_at_bc (s : State) : s.get16 .bc = cat s.b s.c := rfl
@[simp] theorem get16_at_de (s : State) : s.get16 .de = cat s.d s.e := rfl
@[simp] theorem get16_at_hl (s : State) : s.get16 .hl = cat s.h s.l := rfl
@[simp] theorem get16_at_sp (s : State) : s.get16 .sp = s.sp := rfl

/-- Reading the register just written gives the value written (10_state R17). -/
@[simp] theorem get8_set8_same (r : Reg8) (v : Byte) (s : State) : (s.set8 r v).get8 r = v := by
  cases r <;> rfl

/-- Writing one register leaves every other (10_state R18). -/
theorem get8_set8_other {r r' : Reg8} (h : r' ≠ r) (v : Byte) (s : State) :
    (s.set8 r v).get8 r' = s.get8 r' := by
  cases r <;> cases r' <;> first | rfl | exact absurd rfl h

@[simp] theorem get8_setF (v : Byte) (r : Reg8) (s : State) : (s.setF v).get8 r = s.get8 r := by
  cases r <;> rfl

@[simp] theorem get8_setSp (v : Word) (r : Reg8) (s : State) : (s.setSp v).get8 r = s.get8 r := by
  cases r <;> rfl

@[simp] theorem get8_setPc (v : Word) (r : Reg8) (s : State) : (s.setPc v).get8 r = s.get8 r := by
  cases r <;> rfl

@[simp] theorem get8_setStatus (v : Status) (r : Reg8) (s : State) : (s.setStatus v).get8 r = s.get8 r := by
  cases r <;> rfl

@[simp] theorem get8_setLog (v : List OobEvent) (r : Reg8) (s : State) : (s.setLog v).get8 r = s.get8 r := by
  cases r <;> rfl

@[simp] theorem get8_noteRead (n : Nat) (r : Reg8) (s : State) : (s.noteRead n).get8 r = s.get8 r := by
  cases r <;> simp

@[simp] theorem get8_writeU8 (n : Nat) (v : Byte) (r : Reg8) (s : State) :
    (writeU8 n v s).get8 r = s.get8 r := by
  cases r <;> simp

@[simp] theorem get16_noteRead (n : Nat) (r : Reg16) (s : State) : (s.noteRead n).get16 r = s.get16 r := by
  cases r <;> simp

@[simp] theorem get16_writeU8 (n : Nat) (v : Byte) (r : Reg16) (s : State) :
    (writeU8 n v s).get16 r = s.get16 r := by
  cases r <;> simp

end Sys2Proof.Machine
end

