-- ==== Sys2Proof/Laws/Memory.lean ====
section
/-! SUPPORT. The laws of memory: read after write, every other address unchanged, the canonical form kept;
and of the Memory Service over it. -/

namespace Sys2Proof.Machine

/-! ### Memory as data -/

theorem get_erase_same (m : Memory) (n : Nat) : Memory.get (Memory.erase m n) n = Config.unlistedByte := by
  induction m with
  | nil => rfl
  | cons cell m ih =>
    obtain ⟨k, v⟩ := cell
    by_cases same : k = n
    · simpa [Memory.erase, same] using ih
    · simp [Memory.erase, Memory.get, same, ih]

theorem get_erase_other {n k : Nat} (ne : k ≠ n) (m : Memory) :
    Memory.get (Memory.erase m n) k = Memory.get m k := by
  induction m with
  | nil => rfl
  | cons cell m ih =>
    obtain ⟨j, v⟩ := cell
    by_cases same : j = n
    · have : ¬ j = k := by omega
      simpa [Memory.erase, Memory.get, same, this] using by rw [ih, if_neg (by omega)]
    · simp [Memory.erase, Memory.get, same, ih]

theorem get_insert_other {n k : Nat} (ne : k ≠ n) (m : Memory) (v : Byte) :
    Memory.get (Memory.insert m n v) k = Memory.get m k := by
  induction m with
  | nil => simp [Memory.insert, Memory.get, Ne.symm ne]
  | cons cell m ih =>
    obtain ⟨j, w⟩ := cell
    by_cases before : n < j
    · simp [Memory.insert, Memory.get, before, Ne.symm ne]
    · simp [Memory.insert, Memory.get, before, ih]

/-- Inserting finds the new entry first when no entry for the address is listed. -/
theorem get_insert_erase (m : Memory) (n : Nat) (v : Byte) :
    Memory.get (Memory.insert (Memory.erase m n) n v) n = v := by
  induction m with
  | nil => simp [Memory.erase, Memory.insert, Memory.get]
  | cons cell m ih =>
    obtain ⟨j, w⟩ := cell
    by_cases same : j = n
    · simpa [Memory.erase, same] using ih
    · by_cases before : n < j
      · simp [Memory.erase, Memory.insert, Memory.get, same, before]
      · simp [Memory.erase, Memory.insert, Memory.get, same, before, ih]

/-- A read after a write to the same address gives the value written. -/
@[simp] theorem get_set_same (m : Memory) (n : Nat) (v : Byte) :
    Memory.get (Memory.set m n v) n = v := by
  unfold Memory.set
  split
  · rename_i h
    rw [get_erase_same, h]
  · exact get_insert_erase m n v

/-- A write leaves every other address alone. -/
theorem get_set_other {n k : Nat} (ne : k ≠ n) (m : Memory) (v : Byte) :
    Memory.get (Memory.set m n v) k = Memory.get m k := by
  unfold Memory.set
  split
  · exact get_erase_other ne m
  · rw [get_insert_other ne, get_erase_other ne]

/-! ### The canonical form -/

/-- A cell of an erased memory was listed. -/
theorem mem_erase {m : Memory} {n : Nat} {cell : Host.Cell} (h : cell ∈ Memory.erase m n) : cell ∈ m := by
  induction m with
  | nil => exact h
  | cons head m ih =>
    obtain ⟨k, v⟩ := head
    simp only [Memory.erase] at h
    split at h
    · exact List.mem_cons_of_mem _ (ih h)
    · rcases List.mem_cons.mp h with rfl | h
      · exact List.mem_cons_self
      · exact List.mem_cons_of_mem _ (ih h)

/-- A cell of a memory with an insertion was listed or is the new one. -/
theorem mem_insert {m : Memory} {n : Nat} {v : Byte} {cell : Host.Cell}
    (h : cell ∈ Memory.insert m n v) : cell ∈ m ∨ cell = (n, v) := by
  induction m with
  | nil => exact Or.inr (List.mem_singleton.mp h)
  | cons head m ih =>
    obtain ⟨k, w⟩ := head
    simp only [Memory.insert] at h
    split at h
    · rcases List.mem_cons.mp h with rfl | h
      · exact Or.inr rfl
      · exact Or.inl h
    · rcases List.mem_cons.mp h with rfl | h
      · exact Or.inl List.mem_cons_self
      · exact (ih h).imp_left (List.mem_cons_of_mem _)

/-- A cell of a written memory was listed, or is the one written and not the unlisted byte. -/
theorem mem_set {m : Memory} {n : Nat} {v : Byte} {cell : Host.Cell} (h : cell ∈ Memory.set m n v) :
    cell ∈ m ∨ (cell = (n, v) ∧ v ≠ Config.unlistedByte) := by
  unfold Memory.set at h
  split at h
  · exact Or.inl (mem_erase h)
  · rename_i ne
    exact (mem_insert h).imp mem_erase (fun e => ⟨e, ne⟩)

theorem risesFrom_mono {low low' : Nat} (le : low' ≤ low) {m : Memory}
    (h : Memory.risesFrom low m = true) : Memory.risesFrom low' m = true := by
  cases m with
  | nil => rfl
  | cons cell m =>
    obtain ⟨k, v⟩ := cell
    simp only [Memory.risesFrom, Bool.and_eq_true, decide_eq_true_eq] at h ⊢
    exact ⟨by omega, h.2⟩

theorem risesFrom_erase {low : Nat} {m : Memory} (n : Nat) (h : Memory.risesFrom low m = true) :
    Memory.risesFrom low (Memory.erase m n) = true := by
  induction m generalizing low with
  | nil => rfl
  | cons cell m ih =>
    obtain ⟨k, v⟩ := cell
    simp only [Memory.risesFrom, Bool.and_eq_true, decide_eq_true_eq] at h
    simp only [Memory.erase]
    split
    · exact risesFrom_mono (by omega) (ih h.2)
    · simp only [Memory.risesFrom, Bool.and_eq_true, decide_eq_true_eq]
      exact ⟨h.1, ih h.2⟩

theorem risesFrom_insert_erase {low n : Nat} (le : low ≤ n) (v : Byte) {m : Memory}
    (h : Memory.risesFrom low m = true) :
    Memory.risesFrom low (Memory.insert (Memory.erase m n) n v) = true := by
  induction m generalizing low with
  | nil => simp [Memory.erase, Memory.insert, Memory.risesFrom, le]
  | cons cell m ih =>
    obtain ⟨k, w⟩ := cell
    simp only [Memory.risesFrom, Bool.and_eq_true, decide_eq_true_eq] at h
    by_cases same : k = n
    · subst same
      have rest := ih (low := low) le (risesFrom_mono (by omega) h.2)
      simpa [Memory.erase] using rest
    · by_cases before : n < k
      · simp only [Memory.erase, same, if_false, Memory.insert, before, if_true, Memory.risesFrom,
          Bool.and_eq_true, decide_eq_true_eq]
        exact ⟨le, by omega, risesFrom_erase n h.2⟩
      · simp only [Memory.erase, same, if_false, Memory.insert, before, Memory.risesFrom,
          Bool.and_eq_true, decide_eq_true_eq]
        exact ⟨h.1, ih (by omega) h.2⟩

/-- The canonical form in words. -/
theorem wf_iff (m : Memory) : Memory.wf m = true ↔
    Memory.risesFrom 0 m = true ∧ ∀ cell ∈ m, cell.2 ≠ Config.unlistedByte := by
  simp [Memory.wf]

/-- The empty memory is in canonical form. -/
@[simp] theorem wf_nil : Memory.wf [] = true := rfl

/-- Every write keeps the canonical form. -/
theorem wf_set {m : Memory} (n : Nat) (v : Byte) (h : Memory.wf m = true) :
    Memory.wf (Memory.set m n v) = true := by
  rw [wf_iff] at h ⊢
  refine ⟨?_, fun cell hc => ?_⟩
  · unfold Memory.set
    split
    · exact risesFrom_erase n h.1
    · exact risesFrom_insert_erase (Nat.zero_le n) v h.1
  · rcases mem_set hc with hc | ⟨rfl, ne⟩
    · exact h.2 cell hc
    · exact ne

/-! ### The Memory Service -/

@[simp] theorem inRange_setMem (s : State) (m : Memory) (n : Nat) :
    ({ s with mem := m } : State).inRange n = s.inRange n := rfl

theorem inRange_of_config {s t : State} (h : t.config = s.config) (n : Nat) : t.inRange n = s.inRange n := by
  unfold State.inRange; rw [h]

/-- A byte read depends on the parameters and the memory alone. -/
theorem peek_congr {s t : State} (c : t.config = s.config) (m : t.mem = s.mem) (n : Nat) :
    t.peek n = s.peek n := by
  unfold State.peek State.inRange; rw [c, m]

@[simp] theorem peek_noteRead (s : State) (n k : Nat) : (s.noteRead n).peek k = s.peek k :=
  peek_congr (by simp) (by simp) k

@[simp] theorem peek_setLog (s : State) (x : List OobEvent) (k : Nat) : (s.setLog x).peek k = s.peek k := rfl
@[simp] theorem peek_setPc (s : State) (w : Word) (k : Nat) : (s.setPc w).peek k = s.peek k := rfl
@[simp] theorem peek_setSp (s : State) (w : Word) (k : Nat) : (s.setSp w).peek k = s.peek k := rfl
@[simp] theorem peek_setF (s : State) (v : Byte) (k : Nat) : (s.setF v).peek k = s.peek k := rfl
@[simp] theorem peek_setStatus (s : State) (x : Status) (k : Nat) : (s.setStatus x).peek k = s.peek k := rfl

@[simp] theorem peek_set8 (s : State) (r : Reg8) (v : Byte) (k : Nat) : (s.set8 r v).peek k = s.peek k :=
  peek_congr (by simp) (by simp) k

@[simp] theorem peek_set16 (s : State) (r : Reg16) (w : Word) (k : Nat) :
    (s.set16 r w).peek k = s.peek k :=
  peek_congr (by simp) (by simp) k

/-- An in-range read makes no event (20_memory R37). -/
theorem noteRead_inRange {s : State} {n : Nat} (h : s.inRange n = true) : s.noteRead n = s := by
  simp [State.noteRead, h]

/-- An out-of-range read makes one event (20_memory R36). -/
theorem noteRead_outOfRange {s : State} {n : Nat} (h : s.inRange n = false) :
    s.noteRead n = s.noteEvent (.read n) := by
  simp [State.noteRead, h]

/-- Everything a byte write can do: it stores in range, or it logs out of range (20_memory R36, R37). -/
theorem writeU8_cases (n : Nat) (v : Byte) (s : State) :
    (s.inRange n = true ∧ writeU8 n v s = { s with mem := Memory.set s.mem n v }) ∨
    (s.inRange n = false ∧ writeU8 n v s = s.noteEvent (.write n v)) := by
  unfold writeU8
  cases h : s.inRange n <;> simp

/-- A byte write is seen at its address, in range, and nowhere else (20_memory R37). -/
theorem peek_writeU8 (n : Nat) (v : Byte) (s : State) (k : Nat) :
    (writeU8 n v s).peek k = if k = n ∧ s.inRange n = true then v else s.peek k := by
  rcases writeU8_cases n v s with ⟨r, e⟩ | ⟨r, e⟩
  · rw [e]
    by_cases same : k = n
    · subst same
      simp [State.peek, r]
    · simp [State.peek, same, get_set_other same]
  · rw [e, if_neg (by simp [r])]
    rfl

theorem peek_writeU8_same {n : Nat} {s : State} (v : Byte) (h : s.inRange n = true) :
    (writeU8 n v s).peek n = v := by
  simp [peek_writeU8, h]

theorem peek_writeU8_other {n k : Nat} (ne : k ≠ n) (v : Byte) (s : State) :
    (writeU8 n v s).peek k = s.peek k := by
  simp [peek_writeU8, ne]

/-- A word read is its two bytes in little-endian order (20_memory R39). -/
theorem readU16_fst (a : Word) (s : State) :
    (readU16 a s).1 = cat (s.peek (secondAddr s.config a)) (s.peek a.toNat) := by
  simp [readU16, readU8]

theorem readU16_snd (a : Word) (s : State) :
    (readU16 a s).2 = (s.noteRead a.toNat).noteRead (secondAddr s.config a) := rfl

/-- Everything a word read does (20_memory R39). -/
theorem readU16_eq (a : Word) (s : State) : readU16 a s =
    (cat (s.peek (secondAddr s.config a)) (s.peek a.toNat),
      (s.noteRead a.toNat).noteRead (secondAddr s.config a)) :=
  Prod.ext (readU16_fst a s) (readU16_snd a s)

/-- The two addresses of a word differ (20_memory R39). -/
theorem secondAddr_ne (cfg : Config) (a : Word) : secondAddr cfg a ≠ a.toNat := by
  have bound := a.isLt
  unfold secondAddr
  split
  · have one : (1 : Word).toNat = 1 := rfl
    rw [BitVec.toNat_add, one]
    omega
  · omega

/-- A word write is seen at its two addresses, where they are in range, and nowhere else
(20_memory R40). -/
theorem peek_writeU16 (a : Word) (w : Word) (s : State) (k : Nat) :
    (writeU16 a w s).peek k =
      if k = secondAddr s.config a ∧ s.inRange (secondAddr s.config a) = true then hi w
      else if k = a.toNat ∧ s.inRange a.toNat = true then lo w
      else s.peek k := by
  unfold writeU16
  rw [peek_writeU8, peek_writeU8, inRange_of_config (s := s) (by simp)]

@[simp] theorem writeU16_config (a w : Word) (s : State) : (writeU16 a w s).config = s.config := by
  simp [writeU16]

@[simp] theorem writeU16_sp (a w : Word) (s : State) : (writeU16 a w s).sp = s.sp := by
  simp [writeU16]

@[simp] theorem writeU16_pc (a w : Word) (s : State) : (writeU16 a w s).pc = s.pc := by
  simp [writeU16]

@[simp] theorem writeU16_status (a w : Word) (s : State) : (writeU16 a w s).status = s.status := by
  simp [writeU16]

@[simp] theorem writeU16_f (a w : Word) (s : State) : (writeU16 a w s).f = s.f := by
  simp [writeU16]

@[simp] theorem get8_writeU16 (a w : Word) (r : Reg8) (s : State) :
    (writeU16 a w s).get8 r = s.get8 r := by
  simp [writeU16]

@[simp] theorem readU16_config (a : Word) (s : State) : (readU16 a s).2.config = s.config := by
  simp [readU16_snd]

@[simp] theorem readU16_mem (a : Word) (s : State) : (readU16 a s).2.mem = s.mem := by
  simp [readU16_snd]

@[simp] theorem readU16_pc (a : Word) (s : State) : (readU16 a s).2.pc = s.pc := by
  simp [readU16_snd]

@[simp] theorem readU16_sp (a : Word) (s : State) : (readU16 a s).2.sp = s.sp := by
  simp [readU16_snd]

@[simp] theorem readU16_f (a : Word) (s : State) : (readU16 a s).2.f = s.f := by
  simp [readU16_snd]

@[simp] theorem readU16_status (a : Word) (s : State) : (readU16 a s).2.status = s.status := by
  simp [readU16_snd]

@[simp] theorem get8_readU16 (a : Word) (r : Reg8) (s : State) : (readU16 a s).2.get8 r = s.get8 r := by
  simp [readU16_snd]

/-- A word written is the word read, with no event, from any state with the memory it left, where both
bytes are in range (20_memory R41). -/
theorem readU16_of_writeU16 {s t : State} {a w : Word} (low : s.inRange a.toNat = true)
    (high : s.inRange (secondAddr s.config a) = true) (m : t.mem = (writeU16 a w s).mem)
    (c : t.config = s.config) : readU16 a t = (w, t) := by
  have ne := (secondAddr_ne s.config a).symm
  have c' : t.config = (writeU16 a w s).config := by simp [c]
  refine Prod.ext ?_ ?_
  · rw [readU16_fst, c, peek_congr c' m, peek_congr c' m, peek_writeU16, peek_writeU16]
    simp [low, high, ne]
  · rw [readU16_snd, c, noteRead_inRange (n := a.toNat), noteRead_inRange]
    · rwa [inRange_of_config c]
    · rwa [inRange_of_config c]

end Sys2Proof.Machine
end

