-- ==== Sys2Proof/Laws/Flags.lean ====
section
/-! SUPPORT. The flag view bit by bit, and the closed form of a write of the four named flags. -/

namespace Sys2Proof.Machine

theorem getLsbD_flagMask (b : FlagBit) (i : Nat) : (flagMask b).getLsbD i = decide (i = b.val) := by
  have bound := b.isLt
  unfold flagMask
  rw [BitVec.getLsbD_shiftLeft, BitVec.getLsbD_one]
  by_cases same : i = b.val
  · subst same; simp [bound]
  · simp only [same, decide_false, Bool.and_eq_false_iff, decide_eq_false_iff_not,
      Bool.not_eq_false_eq_eq_true]
    simp; omega

/-- What each bit of F reads after a `set_bool` (10_state R24, R25). -/
theorem asBool_flagSetBool (b k : FlagBit) (v : Bool) (f : Byte) :
    asBool k (flagSetBool b v f) = if k = b then v else asBool k f := by
  have bound := k.isLt
  have eqv : (k.val = b.val) ↔ k = b := Fin.val_inj
  have ones : (0xFF : Byte).getLsbD k.val = true := by
    have : (0xFF : Byte) = BitVec.allOnes 8 := rfl
    rw [this, BitVec.getLsbD_allOnes]
    exact decide_eq_true bound
  unfold asBool flagSetBool
  cases v
  · simp only [Bool.false_eq_true, if_false, flagReset, BitVec.getLsbD_and, BitVec.getLsbD_xor,
      getLsbD_flagMask, eqv]
    rw [ones]
    by_cases same : k = b <;> simp [same]
  · simp only [if_true, flagSet, BitVec.getLsbD_or, getLsbD_flagMask, eqv]
    by_cases same : k = b <;> simp [same]

/-- What each bit of F reads after a `toggle` (10_state R24, R25). -/
theorem asBool_flagToggle (b k : FlagBit) (f : Byte) :
    asBool k (flagToggle b f) = if k = b then !(asBool k f) else asBool k f := by
  have eqv : (k.val = b.val) ↔ k = b := Fin.val_inj
  unfold asBool flagToggle
  simp only [BitVec.getLsbD_xor, getLsbD_flagMask, eqv]
  by_cases same : k = b <;> simp [same]

/-- The flags byte is determined by its eight views. -/
theorem flags_ext {f g : Byte} (h : ∀ b : FlagBit, asBool b f = asBool b g) : f = g :=
  BitVec.eq_of_getLsbD_eq fun i hi => h ⟨i, hi⟩

/-- A write of the four named flags in closed form: bits 3..0 are kept (10_state R22, R23). -/
theorem writeFlags_eq (z n h c : Bool) (f : Byte) : writeFlags z n h c f = flagsByte z n h c f := by
  revert f
  cases z <;> cases n <;> cases h <;> cases c <;> decide

/-- A write of Z, N and H in closed form: C and bits 3..0 are kept. -/
theorem writeZNH_eq (z n h : Bool) (f : Byte) :
    writeZNH z n h f = flagsByte z n h (asBool flagC f) f := by
  revert f
  cases z <;> cases n <;> cases h <;> decide

/-! ### Half-carries -/

/-- The half-carry test is the exclusive or of the three bits 4 (42_alu8 R122, R123). -/
theorem halfBit_eq (a b r : Byte) : halfBit a b r = ((a.getLsbD 4 ^^ b.getLsbD 4) ^^ r.getLsbD 4) := by
  have bit : ∀ x : Byte, decide (x &&& 0x10 ≠ 0) = x.getLsbD 4 := by decide
  unfold halfBit
  rw [bit, BitVec.getLsbD_xor, BitVec.getLsbD_xor]

/-- The half-carry of an add is the carry out of the low nibbles (42_alu8 R124). -/
theorem halfBit_add (a b : Byte) : halfBit a b (a + b) = decide (a.toNat % 16 + b.toNat % 16 > 15) := by
  have carry : BitVec.carry 4 a b false = decide (a.toNat % 16 + b.toNat % 16 > 15) := by
    unfold BitVec.carry
    congr 1
  rw [halfBit_eq, BitVec.getLsbD_add (by decide), carry]
  cases a.getLsbD 4 <;> cases b.getLsbD 4 <;> simp

/-- The half-carry of a subtract is the borrow into the low nibble (42_alu8 R124). -/
theorem halfBit_sub (a b : Byte) : halfBit a b (a - b) = decide (a.toNat % 16 < b.toNat % 16) := by
  have bound := a.isLt
  have bound' := b.isLt
  have add := halfBit_add (a - b) b
  rw [BitVec.sub_add_cancel, halfBit_eq] at add
  rw [halfBit_eq, Bool.xor_comm, ← Bool.xor_assoc, Bool.xor_comm _ (b.getLsbD 4), ← Bool.xor_assoc,
    Bool.xor_comm (b.getLsbD 4), add, BitVec.toNat_sub]
  congr 1
  apply propext
  omega

end Sys2Proof.Machine
end

