-- ==== Sys2Proof/Laws/Operands.lean ====
section
/-! SUPPORT. What each operand descriptor and each shared operation does, said once: the equations that the
proofs of the instructions cite instead of unfolding. -/

namespace Sys2Proof.Machine

/-! ### Descriptors -/

@[simp] theorem read8_reg (r : Reg8) (s : State) : read8 (.reg r) s = (s.get8 r, s) := by
  rw [read8]

@[simp] theorem read8_imm (n : Byte) (s : State) : read8 (.imm n) s = (n, s) := by
  rw [read8]

@[simp] theorem read8_const (n : Byte) (s : State) : read8 (.const n) s = (n, s) := by
  rw [read8]

@[simp] theorem read8_ind (x : Src16) (s : State) :
    read8 (.ind x) s = readU8 (read16 x s).1.toNat (read16 x s).2 := by
  rw [read8]

@[simp] theorem read8_indHigh (x : Src8) (s : State) :
    read8 (.indHigh x) s = readU8 (highPage (read8 x s).1).toNat (read8 x s).2 := by
  rw [read8]

@[simp] theorem read16_reg (r : Reg16) (s : State) : read16 (.reg r) s = (s.get16 r, s) := by
  rw [read16]

@[simp] theorem read16_imm (w : Word) (s : State) : read16 (.imm w) s = (w, s) := by
  rw [read16]

@[simp] theorem read16_const (w : Word) (s : State) : read16 (.const w) s = (w, s) := by
  rw [read16]

@[simp] theorem read16_postInc (r : Reg16) (s : State) :
    read16 (.postInc r) s = (s.get16 r, s.set16 r (s.get16 r + 1)) := by
  rw [read16]

@[simp] theorem read16_postDec (r : Reg16) (s : State) :
    read16 (.postDec r) s = (s.get16 r, s.set16 r (s.get16 r - 1)) := by
  rw [read16]

@[simp] theorem read16_offsetSum (x : Src16) (y : Src8) (s : State) :
    read16 (.offsetSum x y) s =
      ((read16 x s).1 + sext16 (read8 y (read16 x s).2).1, (read8 y (read16 x s).2).2) := by
  rw [read16]

@[simp] theorem readU8_eq (n : Nat) (s : State) : readU8 n s = (s.peek n, s.noteRead n) := rfl

@[simp] theorem src_reg (r : Reg8) : (Dst8.reg r).src = .reg r := rfl
@[simp] theorem src_ind (x : Src16) : (Dst8.ind x).src = .ind x := rfl
@[simp] theorem src_indHigh (x : Src8) : (Dst8.indHigh x).src = .indHigh x := rfl
@[simp] theorem src_noWrite (d : Dst8) : (Dst8.noWrite d).src = d.src := rfl
@[simp] theorem src_reg16 (r : Reg16) : (Dst16.reg r).src = .reg r := rfl

@[simp] theorem write8_reg (r : Reg8) (v : Byte) (s : State) : write8 (.reg r) v s = s.set8 r v := rfl

@[simp] theorem write8_ind (x : Src16) (v : Byte) (s : State) :
    write8 (.ind x) v s = writeU8 (read16 x s).1.toNat v (read16 x s).2 := rfl

@[simp] theorem write8_indHigh (x : Src8) (v : Byte) (s : State) :
    write8 (.indHigh x) v s = writeU8 (highPage (read8 x s).1).toNat v (read8 x s).2 := rfl

@[simp] theorem write8_noWrite (d : Dst8) (v : Byte) (s : State) : write8 (.noWrite d) v s = s := rfl

@[simp] theorem write16_reg (r : Reg16) (w : Word) (s : State) : write16 (.reg r) w s = s.set16 r w := rfl

@[simp] theorem write16_ind (x : Src16) (w : Word) (s : State) :
    write16 (.ind x) w s = writeU16 (read16 x s).1 w (read16 x s).2 := rfl

/-! ### Pairs -/

/-- A pair reads as the word just written to it; AF is the pair whose low half P3 may change (10_state R17,
R26). -/
theorem get16_set16_same {r : Reg16} (h : r ≠ .af) (w : Word) (s : State) : (s.set16 r w).get16 r = w := by
  cases r with
  | af => exact absurd rfl h
  | sp => rfl
  | bc | de | hl => exact cat_hi_lo w

/-! ### Sign extension, the high page and SP's offset flags -/

/-- `sext_16` is the sign extension of the bits (00_scope R10). -/
theorem sext16_eq (e : Byte) : sext16 e = e.signExtend 16 := by
  revert e; decide

/-- A high-page address is 0xFF over the byte (30_encoding R82). -/
theorem highPage_eq (b : Byte) : highPage b = cat 0xFF b := by
  revert b; decide

theorem toNat_lo (w : Word) : (lo w).toNat = w.toNat % 256 := by
  simp [lo]

theorem toNat_lowNibble (v : Byte) : (v &&& 0x0F).toNat = v.toNat % 16 := by
  rw [BitVec.toNat_and, show (0x0F : Byte).toNat = 2 ^ 4 - 1 from rfl, Nat.and_two_pow_sub_one_eq_mod]

/-- The flags of the unsigned add of SP's low byte, in closed form (43_alu16 R161). -/
theorem spOffsetFlags_eq (sp : Word) (e f : Byte) :
    spOffsetFlags sp e f = flagsByte false false (decide (sp.toNat % 16 + e.toNat % 16 > 15))
      (decide (sp.toNat % 256 + e.toNat > 255)) f := by
  have nibble : (lo sp &&& 0x0F).toNat = sp.toNat % 16 := by
    rw [toNat_lowNibble, toNat_lo]; omega
  unfold spOffsetFlags
  rw [writeFlags_eq, nibble, toNat_lowNibble, toNat_lo]

/-! ### The stack -/

theorem writeU8_setSp (n : Nat) (v : Byte) (x : Word) (s : State) :
    writeU8 n v (s.setSp x) = (writeU8 n v s).setSp x := by
  unfold writeU8
  rw [inRange_of_config (s := s) (t := s.setSp x) rfl]
  split <;> rfl

theorem writeU16_setSp (a w x : Word) (s : State) :
    writeU16 a w (s.setSp x) = (writeU16 a w s).setSp x := by
  unfold writeU16
  rw [writeU8_setSp, writeU8_setSp]
  rfl

theorem noteRead_setSp (n : Nat) (x : Word) (s : State) :
    (s.setSp x).noteRead n = (s.noteRead n).setSp x := by
  unfold State.noteRead
  rw [inRange_of_config (s := s) (t := s.setSp x) rfl]
  split <;> rfl

/-- The address of the word a push stores. -/
def pushBase (s : State) : Word :=
  match s.config.stackDir with
  | .up => s.sp
  | .down => s.sp - 2

/-- SP after a push. -/
def pushSp (s : State) : Word :=
  match s.config.stackDir with
  | .up => s.sp + 2
  | .down => s.sp - 2

/-- The address of the word a pop reads. -/
def popBase (s : State) : Word :=
  match s.config.stackDir with
  | .up => s.sp - 2
  | .down => s.sp

/-- SP after a pop. -/
def popSp (s : State) : Word :=
  match s.config.stackDir with
  | .up => s.sp - 2
  | .down => s.sp + 2

/-- A push in one form for both directions: a word write, then SP (41_load16_stack R114). -/
theorem push16_eq (w : Word) (s : State) : push16 w s = (writeU16 (pushBase s) w s).setSp (pushSp s) := by
  unfold push16 pushBase pushSp
  cases s.config.stackDir <;> simp [writeU16_setSp]

/-- A pop in one form for both directions: a word read, then SP (41_load16_stack R114). -/
theorem pop16_eq (s : State) : pop16 s =
    (cat (s.peek (secondAddr s.config (popBase s))) (s.peek (popBase s).toNat),
      ((s.noteRead (popBase s).toNat).noteRead (secondAddr s.config (popBase s))).setSp (popSp s)) := by
  unfold pop16 popBase popSp
  cases s.config.stackDir <;> simp only [readU16_eq, setSp_config, noteRead_setSp, peek_setSp]

theorem pushAddrs_eq (s : State) : pushAddrs s = wordAddrs s (pushBase s) := by
  unfold pushAddrs pushBase
  cases s.config.stackDir <;> rfl

@[simp] theorem push16_config (w : Word) (s : State) : (push16 w s).config = s.config := by
  simp [push16_eq]

@[simp] theorem push16_status (w : Word) (s : State) : (push16 w s).status = s.status := by
  simp [push16_eq]

@[simp] theorem push16_pc (w : Word) (s : State) : (push16 w s).pc = s.pc := by
  simp [push16_eq]

@[simp] theorem push16_f (w : Word) (s : State) : (push16 w s).f = s.f := by
  simp [push16_eq]

@[simp] theorem get8_push16 (w : Word) (r : Reg8) (s : State) : (push16 w s).get8 r = s.get8 r := by
  simp [push16_eq]

@[simp] theorem pop16_config (s : State) : (pop16 s).2.config = s.config := by
  simp [pop16_eq]

@[simp] theorem pop16_status (s : State) : (pop16 s).2.status = s.status := by
  simp [pop16_eq]

@[simp] theorem pop16_pc (s : State) : (pop16 s).2.pc = s.pc := by
  simp [pop16_eq]

@[simp] theorem pop16_f (s : State) : (pop16 s).2.f = s.f := by
  simp [pop16_eq]

@[simp] theorem pop16_mem (s : State) : (pop16 s).2.mem = s.mem := by
  simp [pop16_eq]

@[simp] theorem get8_pop16 (r : Reg8) (s : State) : (pop16 s).2.get8 r = s.get8 r := by
  simp [pop16_eq]

@[simp] theorem peek_pop16 (s : State) (k : Nat) : (pop16 s).2.peek k = s.peek k :=
  peek_congr (by simp) (by simp) k

/-- A push changes no byte outside the two it stores to (41_load16_stack R114). -/
theorem peek_push16 {s : State} {k : Nat} (h : k ∉ pushAddrs s) (w : Word) :
    (push16 w s).peek k = s.peek k := by
  rw [pushAddrs_eq, wordAddrs] at h
  rw [push16_eq, peek_setSp, peek_writeU16, if_neg (fun e => h (by simp [e.1])),
    if_neg (fun e => h (by simp [e.1]))]

/-! ### The shared operations' answers -/

theorem advance_eq (len : Word) (s : State) : advance len s = .next (s.setPc (s.pc + len)) := rfl

theorem branch_eq (t : Word) (s : State) : branch t s = .next (s.setPc t) := rfl

theorem raiseError_eq (kind : ErrorKind) (key : OpcodeKey) (s : State) :
    raiseError kind key s = .next (s.setStatus (.faulted kind key s.pc)) := rfl

theorem load8_eq (len : Word) (d : Dst8) (src : Src8) (s : State) :
    load8 len d src s = advance len (write8 d (read8 src s).1 (read8 src s).2) := rfl

theorem load16_eq (len : Word) (d : Dst16) (src : Src16) (s : State) :
    load16 len d src s = advance len (write16 d (read16 src s).1 (read16 src s).2) := rfl

/-- A binary operation on a register and a source that reads no memory and changes nothing. -/
theorem binaryOp8_reg {len : Word} {r : Reg8} {src : Src8} {v : Byte} {s : State}
    (h : read8 src s = (v, s)) (g : Combine8) :
    binaryOp8 len (.reg r) src g s =
      advance len ((s.set8 r (g (s.get8 r) v s.f).1).setF (g (s.get8 r) v s.f).2) := by
  simp [binaryOp8, h]

/-- A binary operation on a register and the byte at a 16-bit register's address. -/
theorem binaryOp8_reg_ind (len : Word) (r : Reg8) (p : Reg16) (g : Combine8) (s : State) :
    binaryOp8 len (.reg r) (.ind (.reg p)) g s =
      advance len ((((s.noteRead (s.get16 p).toNat).set8 r
        (g (s.get8 r) (s.peek (s.get16 p).toNat) s.f).1).setF
        (g (s.get8 r) (s.peek (s.get16 p).toNat) s.f).2)) := by
  simp [binaryOp8]

/-- A read-modify-write of a register. -/
theorem modify8_reg (len : Word) (r : Reg8) (g : Byte → Byte → Byte × Byte) (s : State) :
    modify8 len (.reg r) g s =
      advance len ((s.set8 r (g (s.get8 r) s.f).1).setF (g (s.get8 r) s.f).2) := by
  simp [modify8]

/-- A read-modify-write of the byte at HL: one read, then one write, of the same address. -/
theorem modify8_indHl (len : Word) (g : Byte → Byte → Byte × Byte) (s : State) :
    modify8 len indHl g s =
      advance len ((writeU8 (s.get16 .hl).toNat (g (s.peek (s.get16 .hl).toNat) s.f).1
        (s.noteRead (s.get16 .hl).toNat)).setF (g (s.peek (s.get16 .hl).toNat) s.f).2) := by
  simp [modify8, indHl]

/-- A binary operation on the byte at HL and a constant (INC (HL), DEC (HL)). -/
theorem binaryOp8_indHl_const (len : Word) (v : Byte) (g : Combine8) (s : State) :
    binaryOp8 len indHl (.const v) g s =
      advance len ((writeU8 (s.get16 .hl).toNat (g (s.peek (s.get16 .hl).toNat) v s.f).1
        (s.noteRead (s.get16 .hl).toNat)).setF (g (s.peek (s.get16 .hl).toNat) v s.f).2) := by
  simp [binaryOp8, indHl]

/-- A binary operation on 16-bit registers or a constant. -/
theorem binaryOp16_reg {len : Word} {p : Reg16} {src : Src16} {w : Word} {s : State}
    (h : read16 src s = (w, s)) (g : Combine16) :
    binaryOp16 len (.reg p) src g s =
      advance len ((s.set16 p (g (s.get16 p) w s.f).1).setF (g (s.get16 p) w s.f).2) := by
  simp [binaryOp16, h]

end Sys2Proof.Machine
end

