-- ==== Sys2Proof/Laws/Exec.lean ====
section
/-! SUPPORT. The meaning of an instruction by its rule and fields, and that `exec` is it for every row: a
proof about every instruction splits on the 67 forms, not on the 332 rows. -/

namespace Sys2Proof.Machine

/-- The left operand of an ALU operation: CP does not write A (30_encoding R85; 42_alu8 R147). -/
def aluDst (op : AluOp) : Dst8 :=
  match op with
  | .cp => .noWrite (.reg .a)
  | .add | .adc | .sub | .sbc | .and | .xor | .or => .reg .a

/-- The meaning of a form over the shared operations. -/
def formMeaning (x : Form) (s : State) : Result :=
  match x with
  | .ldRR dst src => load8 1 (.reg dst) (.reg src) s
  | .ldRN8 r n => load8 2 (.reg r) (.imm n) s
  | .ldRIndHl r => load8 1 (.reg r) (.ind (.reg .hl)) s
  | .ldIndHlR r => load8 1 indHl (.reg r) s
  | .ldIndHlN8 n => load8 2 indHl (.imm n) s
  | .ldAIndBc => load8 1 (.reg .a) (.ind (.reg .bc)) s
  | .ldAIndDe => load8 1 (.reg .a) (.ind (.reg .de)) s
  | .ldIndBcA => load8 1 (.ind (.reg .bc)) (.reg .a) s
  | .ldIndDeA => load8 1 (.ind (.reg .de)) (.reg .a) s
  | .ldAIndN16 w => load8 3 (.reg .a) (.ind (.imm w)) s
  | .ldIndN16A w => load8 3 (.ind (.imm w)) (.reg .a) s
  | .ldhAIndC => load8 1 (.reg .a) (.indHigh (.reg .c)) s
  | .ldhIndCA => load8 1 (.indHigh (.reg .c)) (.reg .a) s
  | .ldhAIndN8 n => load8 2 (.reg .a) (.indHigh (.imm n)) s
  | .ldhIndN8A n => load8 2 (.indHigh (.imm n)) (.reg .a) s
  | .ldAHli => load8 1 (.reg .a) (.ind (.postInc .hl)) s
  | .ldAHld => load8 1 (.reg .a) (.ind (.postDec .hl)) s
  | .ldHliA => load8 1 (.ind (.postInc .hl)) (.reg .a) s
  | .ldHldA => load8 1 (.ind (.postDec .hl)) (.reg .a) s
  | .ldRpN16 p w => load16 3 (.reg p.reg) (.imm w) s
  | .ldIndN16Sp w => load16 3 (.ind (.imm w)) (.reg .sp) s
  | .ldSpHl => load16 1 (.reg .sp) (.reg .hl) s
  | .ldHlSpE8 e => execLdHlSpE8 e s
  | .push p => pushReg 1 p.reg s
  | .pop p => popReg 1 p.reg s
  | .aluR op r => binaryOp8 1 (aluDst op) (.reg r) (aluCombine op) s
  | .aluIndHl op => binaryOp8 1 (aluDst op) (.ind (.reg .hl)) (aluCombine op) s
  | .aluN8 op n => binaryOp8 2 (aluDst op) (.imm n) (aluCombine op) s
  | .incR r => binaryOp8 1 (.reg r) (.const 1) incCombine s
  | .incIndHl => binaryOp8 1 indHl (.const 1) incCombine s
  | .decR r => binaryOp8 1 (.reg r) (.const 1) decCombine s
  | .decIndHl => binaryOp8 1 indHl (.const 1) decCombine s
  | .daa => modify8 1 (.reg .a) daaAdjust s
  | .cpl => modify8 1 (.reg .a) (fun v f => (~~~v, cplFlags f)) s
  | .scf => modifyF 1 scfFlags s
  | .ccf => modifyF 1 ccfFlags s
  | .incRp p => binaryOp16 1 (.reg p.reg) (.const 1) inc16Combine s
  | .decRp p => binaryOp16 1 (.reg p.reg) (.const 1) dec16Combine s
  | .addHlRp p => binaryOp16 1 (.reg .hl) (.reg p.reg) (add16Combine s.config) s
  | .addSpE8 e => execAddSpE8 e s
  | .rlca => modify8 1 (.reg .a) (rotAModify .rlc) s
  | .rrca => modify8 1 (.reg .a) (rotAModify .rrc) s
  | .rla => modify8 1 (.reg .a) (rotAModify .rl) s
  | .rra => modify8 1 (.reg .a) (rotAModify .rr) s
  | .rotR op r => modify8 2 (.reg r) (rotModify op) s
  | .rotIndHl op => modify8 2 indHl (rotModify op) s
  | .bitR k r => test8 2 (.reg r) (bitTestFlags k) s
  | .bitIndHl k => test8 2 (.ind (.reg .hl)) (bitTestFlags k) s
  | .resR k r => modify8 2 (.reg r) (resModify k) s
  | .resIndHl k => modify8 2 indHl (resModify k) s
  | .setR k r => modify8 2 (.reg r) (setModify k) s
  | .setIndHl k => modify8 2 indHl (setModify k) s
  | .jpN16 w => branch w s
  | .jpHl => branch (s.get16 .hl) s
  | .jpCc cc w => jumpIf cc.cond 3 w s
  | .jrE8 e => branch (relativeTarget e s) s
  | .jrCc cc e => jumpIf cc.cond 2 (relativeTarget e s) s
  | .callN16 w => callTo 3 w s
  | .callCc cc w => callIf cc.cond 3 w s
  | .ret => returnPop s
  | .retCc cc => returnIf cc.cond 1 s
  | .reti => returnPop s
  | .rst t => callTo 1 (BitVec.ofNat 16 (8 * t.val)) s
  | .nop => advance 1 s
  | .halt => raiseError .unimplementedInstruction (.primary 0x76) s
  | .stop => raiseError .unimplementedInstruction (.primary 0x10) s
  | .di => advance 1 (setInterrupt false s)
  | .ei => advance 1 (setInterrupt true s)

/-- Every row's meaning is its form's. -/
theorem exec_form (x : Form) (s : State) : exec x.instr s = formMeaning x s := by
  cases x with
  | ldRR dst src => cases dst <;> cases src <;> rfl
  | aluR op r => cases op <;> cases r <;> rfl
  | rotR op r => cases op <;> cases r <;> rfl
  | rst t => fin_cases t <;> rfl
  | bitR k r => cases r <;> rfl
  | resR k r => cases r <;> rfl
  | setR k r => cases r <;> rfl
  | ldRN8 r n => cases r <;> rfl
  | ldRIndHl r => cases r <;> rfl
  | ldIndHlR r => cases r <;> rfl
  | incR r => cases r <;> rfl
  | decR r => cases r <;> rfl
  | ldRpN16 p w => cases p <;> rfl
  | incRp p => cases p <;> rfl
  | decRp p => cases p <;> rfl
  | addHlRp p => cases p <;> rfl
  | push p => cases p <;> rfl
  | pop p => cases p <;> rfl
  | aluIndHl op => cases op <;> rfl
  | aluN8 op n => cases op <;> rfl
  | rotIndHl op => cases op <;> rfl
  | jpCc cc w => cases cc <;> rfl
  | jrCc cc e => cases cc <;> rfl
  | callCc cc w => cases cc <;> rfl
  | retCc cc => cases cc <;> rfl
  | _ => rfl

/-- `exec` of any row through its form. -/
theorem exec_eq_formMeaning (i : Instr) (s : State) : exec i s = formMeaning i.form s := by
  rw [← exec_form, form_instr]

/-! ### The next state of every form

Each is written with the named updates alone, from the state before the instruction, so that a frame or an
invariant of all instructions is one case analysis over them. -/

/-- The state after a binary operation on A: the result to A, except for CP, and the flags. -/
def aluNext (op : AluOp) (v : Byte) (s : State) : State :=
  (s.set8 .a (if op = .cp then s.a else (aluCombine op s.a v s.f).1)).setF (aluCombine op s.a v s.f).2

/-- A read-modify-write of the byte at HL. -/
def modifyHl (g : Byte → Byte → Byte × Byte) (s : State) : State :=
  (writeU8 (s.get16 .hl).toNat (g (s.peek (s.get16 .hl).toNat) s.f).1
    (s.noteRead (s.get16 .hl).toNat)).setF (g (s.peek (s.get16 .hl).toNat) s.f).2

/-- A read-modify-write of a register. -/
def modifyReg (r : Reg8) (g : Byte → Byte → Byte × Byte) (s : State) : State :=
  (s.set8 r (g (s.get8 r) s.f).1).setF (g (s.get8 r) s.f).2

/-- A load of a register from an address. -/
def loadReg (r : Reg8) (w : Word) (s : State) : State := (s.noteRead w.toNat).set8 r (s.peek w.toNat)

/-- The state after an instruction, but for PC. -/
def formEffect (x : Form) (s : State) : State :=
  match x with
  | .ldRR dst src => s.set8 dst (s.get8 src)
  | .ldRN8 r n => s.set8 r n
  | .ldRIndHl r => loadReg r (s.get16 .hl) s
  | .ldIndHlR r => writeU8 (s.get16 .hl).toNat (s.get8 r) s
  | .ldIndHlN8 n => writeU8 (s.get16 .hl).toNat n s
  | .ldAIndBc => loadReg .a (s.get16 .bc) s
  | .ldAIndDe => loadReg .a (s.get16 .de) s
  | .ldIndBcA => writeU8 (s.get16 .bc).toNat s.a s
  | .ldIndDeA => writeU8 (s.get16 .de).toNat s.a s
  | .ldAIndN16 w => loadReg .a w s
  | .ldIndN16A w => writeU8 w.toNat s.a s
  | .ldhAIndC => loadReg .a (highPage s.c) s
  | .ldhIndCA => writeU8 (highPage s.c).toNat s.a s
  | .ldhAIndN8 n => loadReg .a (highPage n) s
  | .ldhIndN8A n => writeU8 (highPage n).toNat s.a s
  | .ldAHli => loadReg .a (s.get16 .hl) (s.set16 .hl (s.get16 .hl + 1))
  | .ldAHld => loadReg .a (s.get16 .hl) (s.set16 .hl (s.get16 .hl - 1))
  | .ldHliA => writeU8 (s.get16 .hl).toNat s.a (s.set16 .hl (s.get16 .hl + 1))
  | .ldHldA => writeU8 (s.get16 .hl).toNat s.a (s.set16 .hl (s.get16 .hl - 1))
  | .ldRpN16 p w => s.set16 p.reg w
  | .ldIndN16Sp w => writeU16 w s.sp s
  | .ldSpHl => s.setSp (s.get16 .hl)
  | .ldHlSpE8 e => (s.set16 .hl (s.sp + sext16 e)).setF (speLoadFlags s.config s.sp e s.f)
  | .push p => push16 (s.get16 p.reg) s
  | .pop p => (pop16 s).2.set16 p.reg (pop16 s).1
  | .aluR op r => aluNext op (s.get8 r) s
  | .aluIndHl op => aluNext op (s.peek (s.get16 .hl).toNat) (s.noteRead (s.get16 .hl).toNat)
  | .aluN8 op n => aluNext op n s
  | .incR r => modifyReg r (fun v f => incCombine v 1 f) s
  | .incIndHl => modifyHl (fun v f => incCombine v 1 f) s
  | .decR r => modifyReg r (fun v f => decCombine v 1 f) s
  | .decIndHl => modifyHl (fun v f => decCombine v 1 f) s
  | .daa => modifyReg .a daaAdjust s
  | .cpl => modifyReg .a (fun v f => (~~~v, cplFlags f)) s
  | .scf => s.setF (scfFlags s.f)
  | .ccf => s.setF (ccfFlags s.f)
  | .incRp p => s.set16 p.reg (s.get16 p.reg + 1)
  | .decRp p => s.set16 p.reg (s.get16 p.reg - 1)
  | .addHlRp p => (s.set16 .hl (s.get16 .hl + s.get16 p.reg)).setF
      (add16Combine s.config (s.get16 .hl) (s.get16 p.reg) s.f).2
  | .addSpE8 e => (s.setSp (s.sp + sext16 e)).setF (spOffsetFlags s.sp e s.f)
  | .rlca => modifyReg .a (rotAModify .rlc) s
  | .rrca => modifyReg .a (rotAModify .rrc) s
  | .rla => modifyReg .a (rotAModify .rl) s
  | .rra => modifyReg .a (rotAModify .rr) s
  | .rotR op r => modifyReg r (rotModify op) s
  | .rotIndHl op => modifyHl (rotModify op) s
  | .bitR k r => s.setF (bitTestFlags k (s.get8 r) s.f)
  | .bitIndHl k => (s.noteRead (s.get16 .hl).toNat).setF (bitTestFlags k (s.peek (s.get16 .hl).toNat) s.f)
  | .resR k r => modifyReg r (resModify k) s
  | .resIndHl k => modifyHl (resModify k) s
  | .setR k r => modifyReg r (setModify k) s
  | .setIndHl k => modifyHl (setModify k) s
  | .jpN16 _ | .jpHl | .jpCc _ _ | .jrE8 _ | .jrCc _ _ => s
  | .callN16 _ => push16 (s.pc + 3) s
  | .callCc cc _ => if condHolds cc.cond s.f then push16 (s.pc + 3) s else s
  | .ret | .reti => (pop16 s).2
  | .retCc cc => if condHolds cc.cond s.f then (pop16 s).2 else s
  | .rst _ => push16 (s.pc + 1) s
  | .nop | .di | .ei => s
  | .halt => s.setStatus (.faulted .unimplementedInstruction (.primary 0x76) s.pc)
  | .stop => s.setStatus (.faulted .unimplementedInstruction (.primary 0x10) s.pc)

/-- PC after an instruction (30_encoding R91). -/
def formPc (x : Form) (s : State) : Word :=
  match x with
  | .ldRR _ _ | .ldRIndHl _ | .ldIndHlR _ | .ldAIndBc | .ldAIndDe | .ldIndBcA | .ldIndDeA
  | .ldhAIndC | .ldhIndCA | .ldAHli | .ldAHld | .ldHliA | .ldHldA | .ldSpHl | .push _ | .pop _
  | .aluR _ _ | .aluIndHl _ | .incR _ | .incIndHl | .decR _ | .decIndHl | .daa | .cpl | .scf | .ccf
  | .incRp _ | .decRp _ | .addHlRp _ | .rlca | .rrca | .rla | .rra
  | .nop | .di | .ei => s.pc + 1
  | .ldRN8 _ _ | .ldIndHlN8 _ | .ldhAIndN8 _ | .ldhIndN8A _ | .ldHlSpE8 _ | .aluN8 _ _ | .addSpE8 _
  | .rotR _ _ | .rotIndHl _ | .bitR _ _ | .bitIndHl _ | .resR _ _ | .resIndHl _
  | .setR _ _ | .setIndHl _ => s.pc + 2
  | .ldAIndN16 _ | .ldIndN16A _ | .ldRpN16 _ _ | .ldIndN16Sp _ => s.pc + 3
  | .jpN16 w | .callN16 w => w
  | .jpHl => s.get16 .hl
  | .jrE8 e => relativeTarget e s
  | .jpCc cc w | .callCc cc w => if condHolds cc.cond s.f then w else s.pc + 3
  | .jrCc cc e => if condHolds cc.cond s.f then relativeTarget e s else s.pc + 2
  | .ret | .reti => (pop16 s).1
  | .retCc cc => if condHolds cc.cond s.f then (pop16 s).1 else s.pc + 1
  | .rst t => BitVec.ofNat 16 (8 * t.val)
  | .halt | .stop => s.pc

theorem binaryOp8_alu {len : Word} {op : AluOp} {src : Src8} {v : Byte} {s t : State}
    (h : read8 src s = (v, t)) (ha : t.a = s.a) (hp : t.pc = s.pc) :
    binaryOp8 len (aluDst op) src (aluCombine op) s = .next ((aluNext op v t).setPc (s.pc + len)) := by
  cases op with
  | cp => simp [binaryOp8, aluDst, h, aluNext, advance_eq, ← ha, hp]; rfl
  | _ => simp [binaryOp8, aluDst, h, aluNext, advance_eq, ← ha, hp]

/-- Every form answers a next state: its effect, then its PC. -/
theorem formMeaning_eq (x : Form) (s : State) :
    formMeaning x s = .next ((formEffect x s).setPc (formPc x s)) := by
  cases x with
  | aluR op r => exact binaryOp8_alu (by simp) rfl rfl
  | aluIndHl op => exact binaryOp8_alu (by simp) (by simp) (by simp)
  | aluN8 op n => exact binaryOp8_alu (by simp) rfl rfl
  | jpCc cc w => simp only [formMeaning, jumpIf, formPc]; split <;> rfl
  | jrCc cc e => simp only [formMeaning, jumpIf, formPc]; split <;> rfl
  | callCc cc w => simp only [formMeaning, callIf, formEffect, formPc]; split <;> rfl
  | retCc cc => simp only [formMeaning, returnIf, formEffect, formPc]; split <;> rfl
  | push p => simp [formMeaning, pushReg, advance_eq, formEffect, formPc, push16_eq]
  | pop p => simp [formMeaning, popReg, advance_eq, formEffect, formPc, pop16_eq]
  | incRp p => cases p <;> rfl
  | decRp p => cases p <;> rfl
  | addHlRp p => cases p <;> rfl
  | incR r | decR r =>
    simp only [formMeaning, binaryOp8_reg (read8_const 1 s), advance_eq]; simp [formEffect, formPc, modifyReg]
  | ldSpHl | addSpE8 e | scf | ccf | jpN16 w | jpHl | jrE8 e | callN16 w | ret | reti => rfl
  | rst t | nop | halt | stop | di | ei => rfl
  | incIndHl | decIndHl =>
    simp only [formMeaning, binaryOp8_indHl_const, advance_eq]; simp [formEffect, formPc, modifyHl]
  | daa | cpl | rlca | rrca | rla | rra | rotR op r | resR b r | setR b r =>
    simp only [formMeaning, modify8_reg, advance_eq]; simp [formEffect, formPc, modifyReg]
  | rotIndHl op | resIndHl b | setIndHl b =>
    simp only [formMeaning, modify8_indHl, advance_eq]; simp [formEffect, formPc, modifyHl]
  | bitR b r | bitIndHl b => simp [formMeaning, test8, advance_eq, formEffect, formPc]
  | _ => simp [formMeaning, load8_eq, load16_eq, execLdHlSpE8, advance_eq, formEffect, formPc, loadReg, indHl]

/-- Everything an instruction does: `exec` answers a next state, the form's effect and PC. -/
theorem exec_eq (i : Instr) (s : State) :
    exec i s = .next ((formEffect i.form s).setPc (formPc i.form s)) := by
  rw [exec_eq_formMeaning, formMeaning_eq]

end Sys2Proof.Machine
end

