-- ==== Sys2Proof/Laws/Fetch.lean ====
section
/-! SUPPORT. What fetching and dispatching can do, said once: the instruction the bytes at PC decode to, or
one of the two errors, and the events of the reads made. -/

namespace Sys2Proof

/-- An entry's instructions are as long as the entry says, whatever their operands. -/
def Entry.LengthsAgree : Entry → Prop
  | .unmapped => True
  | .escape => True
  | .f1 f => (encode f.instr).length = 1
  | .f2 mk => ∀ n : Byte, (encode (mk n).instr).length = 2
  | .f3 mk => ∀ w : Word, (encode (mk w).instr).length = 3
  | .fstop f => f = .stop

/-- To prove a fact of every byte, prove it of every numeral below 256. -/
theorem forall_byte {P : Byte → Prop} (h : ∀ n < 256, P (BitVec.ofNat 8 n)) (b : Byte) : P b := by
  have := h b.toNat b.isLt
  rwa [BitVec.ofNat_toNat, BitVec.setWidth_eq] at this

theorem primaryEntry_lengthsAgree (op : Byte) : (primaryEntry op).LengthsAgree := by
  revert op
  refine forall_byte fun n hn => ?_
  interval_cases n <;> first | exact trivial | rfl | exact fun _ => rfl

/-- Every escape row is two bytes long. -/
theorem encode_escapedForm_length (op2 : Byte) : (encode (escapedForm op2).instr).length = 2 := by
  revert op2
  decide

/-- Only 0x76 and 0x10 decode to HALT and STOP. -/
theorem primaryEntry_halt_stop (op : Byte) (ne : op ≠ 0x76) (ne' : op ≠ 0x10) :
    match primaryEntry op with
    | .f1 f => f ≠ .halt ∧ f ≠ .stop
    | .f2 mk => ∀ n : Byte, mk n ≠ .halt ∧ mk n ≠ .stop
    | .f3 mk => ∀ w : Word, mk w ≠ .halt ∧ mk w ≠ .stop
    | .fstop _ => False
    | .unmapped => True
    | .escape => True := by
  revert op
  refine forall_byte fun n hn => ?_
  interval_cases n <;> intro ne ne' <;>
    first
    | exact trivial
    | exact absurd rfl ne
    | exact absurd rfl ne'
    | exact ⟨nofun, nofun⟩
    | exact fun _ => ⟨nofun, nofun⟩

end Sys2Proof

namespace Sys2Proof.Machine

/-- Only the escape byte enters the escape table. -/
theorem primaryEntry_escape (op : Byte) (h : primaryEntry op = .escape) : op = escapeByte := by
  revert op
  refine forall_byte fun n hn => ?_
  interval_cases n <;> intro h <;> first | rfl | exact nomatch h

/-! ### The events of a fetch -/

/-- A read in terms of the event list alone. -/
theorem noteRead_eq (s : State) (n : Nat) :
    s.noteRead n = s.setLog (s.log ++ ([n].filter (fun a => !(s.inRange a))).map .read) := by
  unfold State.noteRead
  cases h : s.inRange n <;> simp [h, State.noteEvent, State.setLog]

/-- Two reads make the events of both addresses, in order. -/
theorem noteRead_noteRead_eq (s : State) (n k : Nat) :
    (s.noteRead n).noteRead k = s.setLog (s.log ++ ([n, k].filter (fun a => !(s.inRange a))).map .read) := by
  rw [noteRead_eq s n, noteRead_eq]
  cases h : s.inRange n <;> cases h' : s.inRange k <;> simp_all [State.setLog, State.inRange]

@[simp] theorem setLog_setLog (s : State) (x y : List OobEvent) : (s.setLog x).setLog y = s.setLog y := rfl

@[simp] theorem inRange_setLog (s : State) (x : List OobEvent) (n : Nat) :
    (s.setLog x).inRange n = s.inRange n := rfl

/-- The events of the opcode fetch alone. -/
theorem fetchEvents_one (s : State) :
    (s.setLog []).noteRead s.pc.toNat = s.setLog (s.fetchEvents 1) := by
  rw [noteRead_eq]; simp [State.fetchEvents, State.fetchAddrs]

theorem fetchEvents_two (s : State) :
    ((s.setLog []).noteRead s.pc.toNat).noteRead (s.pc + 1).toNat = s.setLog (s.fetchEvents 2) := by
  rw [noteRead_noteRead_eq]; simp [State.fetchEvents, State.fetchAddrs]

theorem fetchEvents_three (s : State) :
    (((s.setLog []).noteRead s.pc.toNat).noteRead (s.pc + 1).toNat).noteRead
      (secondAddr s.config (s.pc + 1)) = s.setLog (s.fetchEvents 3) := by
  rw [fetchEvents_two, noteRead_eq]
  have split : s.fetchAddrs.take 3 = s.fetchAddrs.take 2 ++ [secondAddr s.config (s.pc + 1)] := rfl
  simp only [State.fetchEvents, split, List.filter_append, List.map_append]
  rfl

/-! ### Fetch and dispatch -/

/-- Everything a fetch can find: an implemented key's instruction, as the bytes at PC decode, with the events of
reading its bytes; a mapped key P8 leaves out, with those of its opcode bytes; or an unmapped first byte
(30_encoding R90). -/
theorem fetch_cases (s : State) :
    (s.config.implements s.key = true ∧ ∃ i rest, decode s.window = .ok (i, rest) ∧ i ≠ .halt ∧ i ≠ .stop ∧
      fetch (s.setLog []) = (.instr i, s.setLog (s.fetchEvents (encode i).length))) ∨
    (s.key.mapped = true ∧ s.config.implements s.key = false ∧
      fetch (s.setLog []) =
        (.error .unimplementedInstruction s.key, s.setLog (s.fetchEvents (keyBytes s.key)))) ∨
    (s.key.mapped = false ∧ s.key = .primary (s.peek s.pc.toNat) ∧
      lengthOf (s.peek s.pc.toNat) = none ∧ s.config.implements s.key = false ∧
      fetch (s.setLog []) = (.error .unmappedOpcode s.key, s.setLog (s.fetchEvents (keyBytes s.key)))) := by
  have window : s.window = [s.peek s.pc.toNat, s.peek (s.pc + 1).toNat,
      s.peek (secondAddr s.config (s.pc + 1))] := rfl
  by_cases esc : s.peek s.pc.toNat = escapeByte
  · have key : s.key = .escape (s.peek (s.pc + 1).toNat) := by simp [State.key, esc]
    have events : (readU8 (s.pc + 1).toNat (readU8 s.pc.toNat (s.setLog [])).2).2 = s.setLog (s.fetchEvents 2) :=
      fetchEvents_two s
    have fetched : fetch (s.setLog []) =
        if s.config.implements s.key = true then
          (decodeFetched escapeByte [s.peek (s.pc + 1).toNat], s.setLog (s.fetchEvents 2))
        else (.error .unimplementedInstruction s.key, s.setLog (s.fetchEvents 2)) := by
      rw [key, ← events]
      simp [fetch, dispatchEscape, readU8, esc]
    cases impl : s.config.implements s.key
    · exact Or.inr (Or.inl ⟨by rw [key]; rfl, rfl, by rw [fetched, impl, key]; rfl⟩)
    · refine Or.inl ⟨rfl, (escapedForm (s.peek (s.pc + 1).toNat)).instr, _,
        by rw [window, esc]; exact decode_escape _ _, ?_, ?_, ?_⟩
      · generalize s.peek (s.pc + 1).toNat = op2; revert op2; decide
      · generalize s.peek (s.pc + 1).toNat = op2; revert op2; decide
      · rw [fetched, impl, encode_escapedForm_length]; rfl
  · have key : s.key = .primary (s.peek s.pc.toNat) := by simp [State.key, esc]
    have len := primaryEntry_lengthsAgree (s.peek s.pc.toNat)
    have notEscape : primaryEntry (s.peek s.pc.toNat) ≠ .escape := fun h => esc (primaryEntry_escape _ h)
    have fetched : fetch (s.setLog []) =
        dispatchPrimary (s.peek s.pc.toNat) ((s.setLog []).noteRead s.pc.toNat) := by
      simp [fetch, readU8, esc]
    rw [fetchEvents_one] at fetched
    have e2 : readU8 (s.pc + 1).toNat (s.setLog (s.fetchEvents 1)) =
        (s.peek (s.pc + 1).toNat, s.setLog (s.fetchEvents 2)) := by
      rw [← fetchEvents_one, ← fetchEvents_two]; simp
    have e3 : readU16 (s.pc + 1) (s.setLog (s.fetchEvents 1)) =
        (cat (s.peek (secondAddr s.config (s.pc + 1))) (s.peek (s.pc + 1).toNat),
          s.setLog (s.fetchEvents 3)) := by
      rw [← fetchEvents_one, ← fetchEvents_three]
      exact Prod.ext (by simp [readU16_fst]) (by simp [readU16_snd])
    rw [key]
    cases impl : s.config.implements (.primary (s.peek s.pc.toNat))
    · right
      cases entry : primaryEntry (s.peek s.pc.toNat) with
      | unmapped =>
        right
        have none : lengthOf (s.peek s.pc.toNat) = none := by simp [lengthOf, entry, Entry.length]
        exact ⟨by simp [OpcodeKey.mapped, entry], rfl, none, rfl,
          by rw [fetched]; simp [dispatchPrimary, none, keyBytes]⟩
      | escape => exact absurd entry notEscape
      | _ =>
        left
        exact ⟨by simp [OpcodeKey.mapped, entry], rfl, by
          rw [fetched]; simp [dispatchPrimary, lengthOf, entry, Entry.length, impl, keyBytes]⟩
    · left
      have ne : s.peek s.pc.toNat ≠ 0x76 := fun h => by simp [Config.implements, h] at impl
      have ne' : s.peek s.pc.toNat ≠ 0x10 := fun h => by simp [Config.implements, h] at impl
      have plain := primaryEntry_halt_stop _ ne ne'
      refine ⟨rfl, ?_⟩
      cases entry : primaryEntry (s.peek s.pc.toNat) with
      | unmapped => simp [Config.implements, OpcodeKey.mapped, entry] at impl
      | escape => exact absurd entry notEscape
      | f1 f =>
        rw [entry] at plain len
        have notHalt : f.instr ≠ .halt := fun h => plain.1 (by rw [← instr_form f, h]; rfl)
        have notStop : f.instr ≠ .stop := fun h => plain.2 (by rw [← instr_form f, h]; rfl)
        refine ⟨f.instr, _, by rw [window]; simp only [decode, entry, Entry.complete]; rfl, notHalt, notStop, ?_⟩
        rw [fetched, show (encode f.instr).length = 1 from len]
        simp [dispatchPrimary, lengthOf, entry, Entry.length, impl, decodeFetched, decode, Entry.complete,
          fetchImmediate]
      | f2 mk =>
        rw [entry] at plain len
        have plain := plain (s.peek (s.pc + 1).toNat)
        have notHalt : (mk (s.peek (s.pc + 1).toNat)).instr ≠ .halt :=
          fun h => plain.1 (by rw [← instr_form (mk _), h]; rfl)
        have notStop : (mk (s.peek (s.pc + 1).toNat)).instr ≠ .stop :=
          fun h => plain.2 (by rw [← instr_form (mk _), h]; rfl)
        refine ⟨(mk (s.peek (s.pc + 1).toNat)).instr, _,
          by rw [window]; simp only [decode, entry, Entry.complete]; rfl, notHalt, notStop, ?_⟩
        rw [fetched, len _]
        simp only [dispatchPrimary, lengthOf, entry, Entry.length, setLog_config, setLog_pc, impl, if_true,
          decodeFetched, decode, Entry.complete, fetchImmediate, e2]
      | f3 mk =>
        rw [entry] at plain len
        let w := cat (s.peek (secondAddr s.config (s.pc + 1))) (s.peek (s.pc + 1).toNat)
        have plain := plain w
        have notHalt : (mk w).instr ≠ .halt := fun h => plain.1 (by rw [← instr_form (mk _), h]; rfl)
        have notStop : (mk w).instr ≠ .stop := fun h => plain.2 (by rw [← instr_form (mk _), h]; rfl)
        refine ⟨(mk w).instr, _, by rw [window]; simp only [decode, entry, Entry.complete]; rfl,
          notHalt, notStop, ?_⟩
        rw [fetched, len _]
        simp only [dispatchPrimary, lengthOf, entry, Entry.length, setLog_config, setLog_pc, impl, if_true,
          decodeFetched, decode, Entry.complete, fetchImmediate, e3, lo_cat, hi_cat, w]
      | fstop f => rw [entry] at plain; exact plain.elim

end Sys2Proof.Machine
end

