-- ==== Sys2Proof/Laws/PerInstr.lean ====
section
/-! SUPPORT. The per-instruction family RoundTrip: the encoding of one instruction decodes to it, with
every operand it admits, and leaves the bytes after it. -/

namespace Sys2Proof.Laws.RoundTrip

/-- Decoding the encoded instruction, with any bytes after it, gives it back (30_encoding R56 to R73). -/
def Statement (i : Instr) : Prop :=
  i.wellFormed = true → ∀ rest : List Byte, decode (encode i ++ rest) = .ok (i, rest)

theorem ldBcN16 (w : Word) : Statement (.ldBcN16 w) := fun _ rest => decode_word (op := 0x01) (mk := .ldRpN16 .bc) rfl w rest
theorem ldBN8 (n : Byte) : Statement (.ldBN8 n) := fun _ _ => rfl
theorem ldIndN16Sp (w : Word) : Statement (.ldIndN16Sp w) := fun _ rest => decode_word (op := 0x08) (mk := .ldIndN16Sp) rfl w rest
theorem ldCN8 (n : Byte) : Statement (.ldCN8 n) := fun _ _ => rfl
theorem ldDeN16 (w : Word) : Statement (.ldDeN16 w) := fun _ rest => decode_word (op := 0x11) (mk := .ldRpN16 .de) rfl w rest
theorem ldDN8 (n : Byte) : Statement (.ldDN8 n) := fun _ _ => rfl
theorem jrE8 (e : Byte) : Statement (.jrE8 e) := fun _ _ => rfl
theorem ldEN8 (n : Byte) : Statement (.ldEN8 n) := fun _ _ => rfl
theorem jrNzE8 (e : Byte) : Statement (.jrNzE8 e) := fun _ _ => rfl
theorem ldHlN16 (w : Word) : Statement (.ldHlN16 w) := fun _ rest => decode_word (op := 0x21) (mk := .ldRpN16 .hl) rfl w rest
theorem ldHN8 (n : Byte) : Statement (.ldHN8 n) := fun _ _ => rfl
theorem jrZE8 (e : Byte) : Statement (.jrZE8 e) := fun _ _ => rfl
theorem ldLN8 (n : Byte) : Statement (.ldLN8 n) := fun _ _ => rfl
theorem jrNcE8 (e : Byte) : Statement (.jrNcE8 e) := fun _ _ => rfl
theorem ldSpN16 (w : Word) : Statement (.ldSpN16 w) := fun _ rest => decode_word (op := 0x31) (mk := .ldRpN16 .sp) rfl w rest
theorem ldIndHlN8 (n : Byte) : Statement (.ldIndHlN8 n) := fun _ _ => rfl
theorem jrCE8 (e : Byte) : Statement (.jrCE8 e) := fun _ _ => rfl
theorem ldAN8 (n : Byte) : Statement (.ldAN8 n) := fun _ _ => rfl
theorem jpNzN16 (w : Word) : Statement (.jpNzN16 w) := fun _ rest => decode_word (op := 0xC2) (mk := .jpCc .nz) rfl w rest
theorem jpN16 (w : Word) : Statement (.jpN16 w) := fun _ rest => decode_word (op := 0xC3) (mk := .jpN16) rfl w rest
theorem callNzN16 (w : Word) : Statement (.callNzN16 w) := fun _ rest => decode_word (op := 0xC4) (mk := .callCc .nz) rfl w rest
theorem addAN8 (n : Byte) : Statement (.addAN8 n) := fun _ _ => rfl
theorem jpZN16 (w : Word) : Statement (.jpZN16 w) := fun _ rest => decode_word (op := 0xCA) (mk := .jpCc .z) rfl w rest
theorem callZN16 (w : Word) : Statement (.callZN16 w) := fun _ rest => decode_word (op := 0xCC) (mk := .callCc .z) rfl w rest
theorem callN16 (w : Word) : Statement (.callN16 w) := fun _ rest => decode_word (op := 0xCD) (mk := .callN16) rfl w rest
theorem adcAN8 (n : Byte) : Statement (.adcAN8 n) := fun _ _ => rfl
theorem jpNcN16 (w : Word) : Statement (.jpNcN16 w) := fun _ rest => decode_word (op := 0xD2) (mk := .jpCc .nc) rfl w rest
theorem callNcN16 (w : Word) : Statement (.callNcN16 w) := fun _ rest => decode_word (op := 0xD4) (mk := .callCc .nc) rfl w rest
theorem subAN8 (n : Byte) : Statement (.subAN8 n) := fun _ _ => rfl
theorem jpCN16 (w : Word) : Statement (.jpCN16 w) := fun _ rest => decode_word (op := 0xDA) (mk := .jpCc .c) rfl w rest
theorem callCN16 (w : Word) : Statement (.callCN16 w) := fun _ rest => decode_word (op := 0xDC) (mk := .callCc .c) rfl w rest
theorem sbcAN8 (n : Byte) : Statement (.sbcAN8 n) := fun _ _ => rfl
theorem ldhIndN8A (n : Byte) : Statement (.ldhIndN8A n) := fun _ _ => rfl
theorem andAN8 (n : Byte) : Statement (.andAN8 n) := fun _ _ => rfl
theorem addSpE8 (e : Byte) : Statement (.addSpE8 e) := fun _ _ => rfl
theorem ldIndN16A (w : Word) : Statement (.ldIndN16A w) := fun _ rest => decode_word (op := 0xEA) (mk := .ldIndN16A) rfl w rest
theorem xorAN8 (n : Byte) : Statement (.xorAN8 n) := fun _ _ => rfl
theorem ldhAIndN8 (n : Byte) : Statement (.ldhAIndN8 n) := fun _ _ => rfl
theorem orAN8 (n : Byte) : Statement (.orAN8 n) := fun _ _ => rfl
theorem ldHlSpE8 (e : Byte) : Statement (.ldHlSpE8 e) := fun _ _ => rfl
theorem ldAIndN16 (w : Word) : Statement (.ldAIndN16 w) := fun _ rest => decode_word (op := 0xFA) (mk := .ldAIndN16) rfl w rest
theorem cpAN8 (n : Byte) : Statement (.cpAN8 n) := fun _ _ => rfl
theorem bitB (b : Nat) : Statement (.bitB b) := fun h rest => decode_bit (base := 0x40) (by intro b hb; interval_cases b <;> rfl) h rest
theorem bitC (b : Nat) : Statement (.bitC b) := fun h rest => decode_bit (base := 0x41) (by intro b hb; interval_cases b <;> rfl) h rest
theorem bitD (b : Nat) : Statement (.bitD b) := fun h rest => decode_bit (base := 0x42) (by intro b hb; interval_cases b <;> rfl) h rest
theorem bitE (b : Nat) : Statement (.bitE b) := fun h rest => decode_bit (base := 0x43) (by intro b hb; interval_cases b <;> rfl) h rest
theorem bitH (b : Nat) : Statement (.bitH b) := fun h rest => decode_bit (base := 0x44) (by intro b hb; interval_cases b <;> rfl) h rest
theorem bitL (b : Nat) : Statement (.bitL b) := fun h rest => decode_bit (base := 0x45) (by intro b hb; interval_cases b <;> rfl) h rest
theorem bitIndHl (b : Nat) : Statement (.bitIndHl b) := fun h rest => decode_bit (base := 0x46) (by intro b hb; interval_cases b <;> rfl) h rest
theorem bitA (b : Nat) : Statement (.bitA b) := fun h rest => decode_bit (base := 0x47) (by intro b hb; interval_cases b <;> rfl) h rest
theorem resB (b : Nat) : Statement (.resB b) := fun h rest => decode_bit (base := 0x80) (by intro b hb; interval_cases b <;> rfl) h rest
theorem resC (b : Nat) : Statement (.resC b) := fun h rest => decode_bit (base := 0x81) (by intro b hb; interval_cases b <;> rfl) h rest
theorem resD (b : Nat) : Statement (.resD b) := fun h rest => decode_bit (base := 0x82) (by intro b hb; interval_cases b <;> rfl) h rest
theorem resE (b : Nat) : Statement (.resE b) := fun h rest => decode_bit (base := 0x83) (by intro b hb; interval_cases b <;> rfl) h rest
theorem resH (b : Nat) : Statement (.resH b) := fun h rest => decode_bit (base := 0x84) (by intro b hb; interval_cases b <;> rfl) h rest
theorem resL (b : Nat) : Statement (.resL b) := fun h rest => decode_bit (base := 0x85) (by intro b hb; interval_cases b <;> rfl) h rest
theorem resIndHl (b : Nat) : Statement (.resIndHl b) := fun h rest => decode_bit (base := 0x86) (by intro b hb; interval_cases b <;> rfl) h rest
theorem resA (b : Nat) : Statement (.resA b) := fun h rest => decode_bit (base := 0x87) (by intro b hb; interval_cases b <;> rfl) h rest
theorem setB (b : Nat) : Statement (.setB b) := fun h rest => decode_bit (base := 0xC0) (by intro b hb; interval_cases b <;> rfl) h rest
theorem setC (b : Nat) : Statement (.setC b) := fun h rest => decode_bit (base := 0xC1) (by intro b hb; interval_cases b <;> rfl) h rest
theorem setD (b : Nat) : Statement (.setD b) := fun h rest => decode_bit (base := 0xC2) (by intro b hb; interval_cases b <;> rfl) h rest
theorem setE (b : Nat) : Statement (.setE b) := fun h rest => decode_bit (base := 0xC3) (by intro b hb; interval_cases b <;> rfl) h rest
theorem setH (b : Nat) : Statement (.setH b) := fun h rest => decode_bit (base := 0xC4) (by intro b hb; interval_cases b <;> rfl) h rest
theorem setL (b : Nat) : Statement (.setL b) := fun h rest => decode_bit (base := 0xC5) (by intro b hb; interval_cases b <;> rfl) h rest
theorem setIndHl (b : Nat) : Statement (.setIndHl b) := fun h rest => decode_bit (base := 0xC6) (by intro b hb; interval_cases b <;> rfl) h rest
theorem setA (b : Nat) : Statement (.setA b) := fun h rest => decode_bit (base := 0xC7) (by intro b hb; interval_cases b <;> rfl) h rest
theorem nop : Statement .nop := fun _ _ => rfl
theorem ldIndBcA : Statement .ldIndBcA := fun _ _ => rfl
theorem incBc : Statement .incBc := fun _ _ => rfl
theorem incB : Statement .incB := fun _ _ => rfl
theorem decB : Statement .decB := fun _ _ => rfl
theorem rlca : Statement .rlca := fun _ _ => rfl
theorem addHlBc : Statement .addHlBc := fun _ _ => rfl
theorem ldAIndBc : Statement .ldAIndBc := fun _ _ => rfl
theorem decBc : Statement .decBc := fun _ _ => rfl
theorem incC : Statement .incC := fun _ _ => rfl
theorem decC : Statement .decC := fun _ _ => rfl
theorem rrca : Statement .rrca := fun _ _ => rfl
theorem stop : Statement .stop := fun _ _ => rfl
theorem ldIndDeA : Statement .ldIndDeA := fun _ _ => rfl
theorem incDe : Statement .incDe := fun _ _ => rfl
theorem incD : Statement .incD := fun _ _ => rfl
theorem decD : Statement .decD := fun _ _ => rfl
theorem rla : Statement .rla := fun _ _ => rfl
theorem addHlDe : Statement .addHlDe := fun _ _ => rfl
theorem ldAIndDe : Statement .ldAIndDe := fun _ _ => rfl
theorem decDe : Statement .decDe := fun _ _ => rfl
theorem incE : Statement .incE := fun _ _ => rfl
theorem decE : Statement .decE := fun _ _ => rfl
theorem rra : Statement .rra := fun _ _ => rfl
theorem ldHliA : Statement .ldHliA := fun _ _ => rfl
theorem incHl : Statement .incHl := fun _ _ => rfl
theorem incH : Statement .incH := fun _ _ => rfl
theorem decH : Statement .decH := fun _ _ => rfl
theorem daa : Statement .daa := fun _ _ => rfl
theorem addHlHl : Statement .addHlHl := fun _ _ => rfl
theorem ldAHli : Statement .ldAHli := fun _ _ => rfl
theorem decHl : Statement .decHl := fun _ _ => rfl
theorem incL : Statement .incL := fun _ _ => rfl
theorem decL : Statement .decL := fun _ _ => rfl
theorem cpl : Statement .cpl := fun _ _ => rfl
theorem ldHldA : Statement .ldHldA := fun _ _ => rfl
theorem incSp : Statement .incSp := fun _ _ => rfl
theorem incIndHl : Statement .incIndHl := fun _ _ => rfl
theorem decIndHl : Statement .decIndHl := fun _ _ => rfl
theorem scf : Statement .scf := fun _ _ => rfl
theorem addHlSp : Statement .addHlSp := fun _ _ => rfl
theorem ldAHld : Statement .ldAHld := fun _ _ => rfl
theorem decSp : Statement .decSp := fun _ _ => rfl
theorem incA : Statement .incA := fun _ _ => rfl
theorem decA : Statement .decA := fun _ _ => rfl
theorem ccf : Statement .ccf := fun _ _ => rfl
theorem ldBB : Statement .ldBB := fun _ _ => rfl
theorem ldBC : Statement .ldBC := fun _ _ => rfl
theorem ldBD : Statement .ldBD := fun _ _ => rfl
theorem ldBE : Statement .ldBE := fun _ _ => rfl
theorem ldBH : Statement .ldBH := fun _ _ => rfl
theorem ldBL : Statement .ldBL := fun _ _ => rfl
theorem ldBIndHl : Statement .ldBIndHl := fun _ _ => rfl
theorem ldBA : Statement .ldBA := fun _ _ => rfl
theorem ldCB : Statement .ldCB := fun _ _ => rfl
theorem ldCC : Statement .ldCC := fun _ _ => rfl
theorem ldCD : Statement .ldCD := fun _ _ => rfl
theorem ldCE : Statement .ldCE := fun _ _ => rfl
theorem ldCH : Statement .ldCH := fun _ _ => rfl
theorem ldCL : Statement .ldCL := fun _ _ => rfl
theorem ldCIndHl : Statement .ldCIndHl := fun _ _ => rfl
theorem ldCA : Statement .ldCA := fun _ _ => rfl
theorem ldDB : Statement .ldDB := fun _ _ => rfl
theorem ldDC : Statement .ldDC := fun _ _ => rfl
theorem ldDD : Statement .ldDD := fun _ _ => rfl
theorem ldDE : Statement .ldDE := fun _ _ => rfl
theorem ldDH : Statement .ldDH := fun _ _ => rfl
theorem ldDL : Statement .ldDL := fun _ _ => rfl
theorem ldDIndHl : Statement .ldDIndHl := fun _ _ => rfl
theorem ldDA : Statement .ldDA := fun _ _ => rfl
theorem ldEB : Statement .ldEB := fun _ _ => rfl
theorem ldEC : Statement .ldEC := fun _ _ => rfl
theorem ldED : Statement .ldED := fun _ _ => rfl
theorem ldEE : Statement .ldEE := fun _ _ => rfl
theorem ldEH : Statement .ldEH := fun _ _ => rfl
theorem ldEL : Statement .ldEL := fun _ _ => rfl
theorem ldEIndHl : Statement .ldEIndHl := fun _ _ => rfl
theorem ldEA : Statement .ldEA := fun _ _ => rfl
theorem ldHB : Statement .ldHB := fun _ _ => rfl
theorem ldHC : Statement .ldHC := fun _ _ => rfl
theorem ldHD : Statement .ldHD := fun _ _ => rfl
theorem ldHE : Statement .ldHE := fun _ _ => rfl
theorem ldHH : Statement .ldHH := fun _ _ => rfl
theorem ldHL : Statement .ldHL := fun _ _ => rfl
theorem ldHIndHl : Statement .ldHIndHl := fun _ _ => rfl
theorem ldHA : Statement .ldHA := fun _ _ => rfl
theorem ldLB : Statement .ldLB := fun _ _ => rfl
theorem ldLC : Statement .ldLC := fun _ _ => rfl
theorem ldLD : Statement .ldLD := fun _ _ => rfl
theorem ldLE : Statement .ldLE := fun _ _ => rfl
theorem ldLH : Statement .ldLH := fun _ _ => rfl
theorem ldLL : Statement .ldLL := fun _ _ => rfl
theorem ldLIndHl : Statement .ldLIndHl := fun _ _ => rfl
theorem ldLA : Statement .ldLA := fun _ _ => rfl
theorem ldIndHlB : Statement .ldIndHlB := fun _ _ => rfl
theorem ldIndHlC : Statement .ldIndHlC := fun _ _ => rfl
theorem ldIndHlD : Statement .ldIndHlD := fun _ _ => rfl
theorem ldIndHlE : Statement .ldIndHlE := fun _ _ => rfl
theorem ldIndHlH : Statement .ldIndHlH := fun _ _ => rfl
theorem ldIndHlL : Statement .ldIndHlL := fun _ _ => rfl
theorem halt : Statement .halt := fun _ _ => rfl
theorem ldIndHlA : Statement .ldIndHlA := fun _ _ => rfl
theorem ldAB : Statement .ldAB := fun _ _ => rfl
theorem ldAC : Statement .ldAC := fun _ _ => rfl
theorem ldAD : Statement .ldAD := fun _ _ => rfl
theorem ldAE : Statement .ldAE := fun _ _ => rfl
theorem ldAH : Statement .ldAH := fun _ _ => rfl
theorem ldAL : Statement .ldAL := fun _ _ => rfl
theorem ldAIndHl : Statement .ldAIndHl := fun _ _ => rfl
theorem ldAA : Statement .ldAA := fun _ _ => rfl
theorem addAB : Statement .addAB := fun _ _ => rfl
theorem addAC : Statement .addAC := fun _ _ => rfl
theorem addAD : Statement .addAD := fun _ _ => rfl
theorem addAE : Statement .addAE := fun _ _ => rfl
theorem addAH : Statement .addAH := fun _ _ => rfl
theorem addAL : Statement .addAL := fun _ _ => rfl
theorem addAIndHl : Statement .addAIndHl := fun _ _ => rfl
theorem addAA : Statement .addAA := fun _ _ => rfl
theorem adcAB : Statement .adcAB := fun _ _ => rfl
theorem adcAC : Statement .adcAC := fun _ _ => rfl
theorem adcAD : Statement .adcAD := fun _ _ => rfl
theorem adcAE : Statement .adcAE := fun _ _ => rfl
theorem adcAH : Statement .adcAH := fun _ _ => rfl
theorem adcAL : Statement .adcAL := fun _ _ => rfl
theorem adcAIndHl : Statement .adcAIndHl := fun _ _ => rfl
theorem adcAA : Statement .adcAA := fun _ _ => rfl
theorem subAB : Statement .subAB := fun _ _ => rfl
theorem subAC : Statement .subAC := fun _ _ => rfl
theorem subAD : Statement .subAD := fun _ _ => rfl
theorem subAE : Statement .subAE := fun _ _ => rfl
theorem subAH : Statement .subAH := fun _ _ => rfl
theorem subAL : Statement .subAL := fun _ _ => rfl
theorem subAIndHl : Statement .subAIndHl := fun _ _ => rfl
theorem subAA : Statement .subAA := fun _ _ => rfl
theorem sbcAB : Statement .sbcAB := fun _ _ => rfl
theorem sbcAC : Statement .sbcAC := fun _ _ => rfl
theorem sbcAD : Statement .sbcAD := fun _ _ => rfl
theorem sbcAE : Statement .sbcAE := fun _ _ => rfl
theorem sbcAH : Statement .sbcAH := fun _ _ => rfl
theorem sbcAL : Statement .sbcAL := fun _ _ => rfl
theorem sbcAIndHl : Statement .sbcAIndHl := fun _ _ => rfl
theorem sbcAA : Statement .sbcAA := fun _ _ => rfl
theorem andAB : Statement .andAB := fun _ _ => rfl
theorem andAC : Statement .andAC := fun _ _ => rfl
theorem andAD : Statement .andAD := fun _ _ => rfl
theorem andAE : Statement .andAE := fun _ _ => rfl
theorem andAH : Statement .andAH := fun _ _ => rfl
theorem andAL : Statement .andAL := fun _ _ => rfl
theorem andAIndHl : Statement .andAIndHl := fun _ _ => rfl
theorem andAA : Statement .andAA := fun _ _ => rfl
theorem xorAB : Statement .xorAB := fun _ _ => rfl
theorem xorAC : Statement .xorAC := fun _ _ => rfl
theorem xorAD : Statement .xorAD := fun _ _ => rfl
theorem xorAE : Statement .xorAE := fun _ _ => rfl
theorem xorAH : Statement .xorAH := fun _ _ => rfl
theorem xorAL : Statement .xorAL := fun _ _ => rfl
theorem xorAIndHl : Statement .xorAIndHl := fun _ _ => rfl
theorem xorAA : Statement .xorAA := fun _ _ => rfl
theorem orAB : Statement .orAB := fun _ _ => rfl
theorem orAC : Statement .orAC := fun _ _ => rfl
theorem orAD : Statement .orAD := fun _ _ => rfl
theorem orAE : Statement .orAE := fun _ _ => rfl
theorem orAH : Statement .orAH := fun _ _ => rfl
theorem orAL : Statement .orAL := fun _ _ => rfl
theorem orAIndHl : Statement .orAIndHl := fun _ _ => rfl
theorem orAA : Statement .orAA := fun _ _ => rfl
theorem cpAB : Statement .cpAB := fun _ _ => rfl
theorem cpAC : Statement .cpAC := fun _ _ => rfl
theorem cpAD : Statement .cpAD := fun _ _ => rfl
theorem cpAE : Statement .cpAE := fun _ _ => rfl
theorem cpAH : Statement .cpAH := fun _ _ => rfl
theorem cpAL : Statement .cpAL := fun _ _ => rfl
theorem cpAIndHl : Statement .cpAIndHl := fun _ _ => rfl
theorem cpAA : Statement .cpAA := fun _ _ => rfl
theorem retNz : Statement .retNz := fun _ _ => rfl
theorem popBc : Statement .popBc := fun _ _ => rfl
theorem pushBc : Statement .pushBc := fun _ _ => rfl
theorem rst00 : Statement .rst00 := fun _ _ => rfl
theorem retZ : Statement .retZ := fun _ _ => rfl
theorem ret : Statement .ret := fun _ _ => rfl
theorem rst08 : Statement .rst08 := fun _ _ => rfl
theorem retNc : Statement .retNc := fun _ _ => rfl
theorem popDe : Statement .popDe := fun _ _ => rfl
theorem pushDe : Statement .pushDe := fun _ _ => rfl
theorem rst10 : Statement .rst10 := fun _ _ => rfl
theorem retC : Statement .retC := fun _ _ => rfl
theorem reti : Statement .reti := fun _ _ => rfl
theorem rst18 : Statement .rst18 := fun _ _ => rfl
theorem popHl : Statement .popHl := fun _ _ => rfl
theorem ldhIndCA : Statement .ldhIndCA := fun _ _ => rfl
theorem pushHl : Statement .pushHl := fun _ _ => rfl
theorem rst20 : Statement .rst20 := fun _ _ => rfl
theorem jpHl : Statement .jpHl := fun _ _ => rfl
theorem rst28 : Statement .rst28 := fun _ _ => rfl
theorem popAf : Statement .popAf := fun _ _ => rfl
theorem ldhAIndC : Statement .ldhAIndC := fun _ _ => rfl
theorem di : Statement .di := fun _ _ => rfl
theorem pushAf : Statement .pushAf := fun _ _ => rfl
theorem rst30 : Statement .rst30 := fun _ _ => rfl
theorem ldSpHl : Statement .ldSpHl := fun _ _ => rfl
theorem ei : Statement .ei := fun _ _ => rfl
theorem rst38 : Statement .rst38 := fun _ _ => rfl
theorem rlcB : Statement .rlcB := fun _ _ => rfl
theorem rlcC : Statement .rlcC := fun _ _ => rfl
theorem rlcD : Statement .rlcD := fun _ _ => rfl
theorem rlcE : Statement .rlcE := fun _ _ => rfl
theorem rlcH : Statement .rlcH := fun _ _ => rfl
theorem rlcL : Statement .rlcL := fun _ _ => rfl
theorem rlcIndHl : Statement .rlcIndHl := fun _ _ => rfl
theorem rlcA : Statement .rlcA := fun _ _ => rfl
theorem rrcB : Statement .rrcB := fun _ _ => rfl
theorem rrcC : Statement .rrcC := fun _ _ => rfl
theorem rrcD : Statement .rrcD := fun _ _ => rfl
theorem rrcE : Statement .rrcE := fun _ _ => rfl
theorem rrcH : Statement .rrcH := fun _ _ => rfl
theorem rrcL : Statement .rrcL := fun _ _ => rfl
theorem rrcIndHl : Statement .rrcIndHl := fun _ _ => rfl
theorem rrcA : Statement .rrcA := fun _ _ => rfl
theorem rlB : Statement .rlB := fun _ _ => rfl
theorem rlC : Statement .rlC := fun _ _ => rfl
theorem rlD : Statement .rlD := fun _ _ => rfl
theorem rlE : Statement .rlE := fun _ _ => rfl
theorem rlH : Statement .rlH := fun _ _ => rfl
theorem rlL : Statement .rlL := fun _ _ => rfl
theorem rlIndHl : Statement .rlIndHl := fun _ _ => rfl
theorem rlA : Statement .rlA := fun _ _ => rfl
theorem rrB : Statement .rrB := fun _ _ => rfl
theorem rrC : Statement .rrC := fun _ _ => rfl
theorem rrD : Statement .rrD := fun _ _ => rfl
theorem rrE : Statement .rrE := fun _ _ => rfl
theorem rrH : Statement .rrH := fun _ _ => rfl
theorem rrL : Statement .rrL := fun _ _ => rfl
theorem rrIndHl : Statement .rrIndHl := fun _ _ => rfl
theorem rrA : Statement .rrA := fun _ _ => rfl
theorem slaB : Statement .slaB := fun _ _ => rfl
theorem slaC : Statement .slaC := fun _ _ => rfl
theorem slaD : Statement .slaD := fun _ _ => rfl
theorem slaE : Statement .slaE := fun _ _ => rfl
theorem slaH : Statement .slaH := fun _ _ => rfl
theorem slaL : Statement .slaL := fun _ _ => rfl
theorem slaIndHl : Statement .slaIndHl := fun _ _ => rfl
theorem slaA : Statement .slaA := fun _ _ => rfl
theorem sraB : Statement .sraB := fun _ _ => rfl
theorem sraC : Statement .sraC := fun _ _ => rfl
theorem sraD : Statement .sraD := fun _ _ => rfl
theorem sraE : Statement .sraE := fun _ _ => rfl
theorem sraH : Statement .sraH := fun _ _ => rfl
theorem sraL : Statement .sraL := fun _ _ => rfl
theorem sraIndHl : Statement .sraIndHl := fun _ _ => rfl
theorem sraA : Statement .sraA := fun _ _ => rfl
theorem swapB : Statement .swapB := fun _ _ => rfl
theorem swapC : Statement .swapC := fun _ _ => rfl
theorem swapD : Statement .swapD := fun _ _ => rfl
theorem swapE : Statement .swapE := fun _ _ => rfl
theorem swapH : Statement .swapH := fun _ _ => rfl
theorem swapL : Statement .swapL := fun _ _ => rfl
theorem swapIndHl : Statement .swapIndHl := fun _ _ => rfl
theorem swapA : Statement .swapA := fun _ _ => rfl
theorem srlB : Statement .srlB := fun _ _ => rfl
theorem srlC : Statement .srlC := fun _ _ => rfl
theorem srlD : Statement .srlD := fun _ _ => rfl
theorem srlE : Statement .srlE := fun _ _ => rfl
theorem srlH : Statement .srlH := fun _ _ => rfl
theorem srlL : Statement .srlL := fun _ _ => rfl
theorem srlIndHl : Statement .srlIndHl := fun _ _ => rfl
theorem srlA : Statement .srlA := fun _ _ => rfl

end Sys2Proof.Laws.RoundTrip
end

