-- ==== Sys2Proof/Tests/Slice0.lean ====
section
/-! SUPPORT. The model's own tests: the well-formedness check on ill-formed terms, the decoding of every row
of the opcode table and of words written out bit by bit, steps taken from 95_test_vectors (the vector's
number is in the test's name, and its expected values are the spec's), and for every statement with
hypotheses a state and operands that meet them. -/

namespace Sys2Proof.Tests

open Sys2Proof.Machine

/-! ### Well-formedness -/

theorem test_illformed_bit : (Instr.bitB 8).wellFormed = false ∧ (Instr.bitIndHl 8).wellFormed = false := by
  decide

theorem test_illformed_res : (Instr.resA 8).wellFormed = false ∧ (Instr.resIndHl 9).wellFormed = false := by
  decide

theorem test_illformed_set : (Instr.setH 8).wellFormed = false ∧ (Instr.setIndHl 255).wellFormed = false := by
  decide

theorem test_wellformed_bits :
    (Instr.bitB 7).wellFormed = true ∧ (Instr.resA 0).wellFormed = true ∧ (Instr.setIndHl 7).wellFormed = true := by
  decide

/-! ### Decoding: every row, by its match bits in the opcode table (immediates 0x34 and 0x1234, bit number 5) -/

/-- Every row's bytes decode to its instruction and to nothing more. -/
def DecodeTo (rows : List (List Byte × Instr)) : Prop :=
  rows.map (fun r => decode r.1) = rows.map (fun r => .ok (r.2, []))

theorem test_decode_rows_x0 : DecodeTo [
    ([0x00], .nop), ([0x01, 0x34, 0x12], .ldBcN16 0x1234), ([0x02], .ldIndBcA), ([0x03], .incBc),
    ([0x04], .incB), ([0x05], .decB), ([0x06, 0x34], .ldBN8 0x34), ([0x07], .rlca),
    ([0x08, 0x34, 0x12], .ldIndN16Sp 0x1234), ([0x09], .addHlBc), ([0x0A], .ldAIndBc), ([0x0B], .decBc),
    ([0x0C], .incC), ([0x0D], .decC), ([0x0E, 0x34], .ldCN8 0x34), ([0x0F], .rrca), ([0x10, 0x34], .stop),
    ([0x11, 0x34, 0x12], .ldDeN16 0x1234), ([0x12], .ldIndDeA), ([0x13], .incDe), ([0x14], .incD),
    ([0x15], .decD), ([0x16, 0x34], .ldDN8 0x34), ([0x17], .rla), ([0x18, 0x34], .jrE8 0x34),
    ([0x19], .addHlDe), ([0x1A], .ldAIndDe), ([0x1B], .decDe), ([0x1C], .incE), ([0x1D], .decE),
    ([0x1E, 0x34], .ldEN8 0x34), ([0x1F], .rra), ([0x20, 0x34], .jrNzE8 0x34),
    ([0x21, 0x34, 0x12], .ldHlN16 0x1234), ([0x22], .ldHliA), ([0x23], .incHl), ([0x24], .incH),
    ([0x25], .decH), ([0x26, 0x34], .ldHN8 0x34), ([0x27], .daa), ([0x28, 0x34], .jrZE8 0x34),
    ([0x29], .addHlHl), ([0x2A], .ldAHli), ([0x2B], .decHl), ([0x2C], .incL), ([0x2D], .decL),
    ([0x2E, 0x34], .ldLN8 0x34), ([0x2F], .cpl), ([0x30, 0x34], .jrNcE8 0x34),
    ([0x31, 0x34, 0x12], .ldSpN16 0x1234), ([0x32], .ldHldA), ([0x33], .incSp), ([0x34], .incIndHl),
    ([0x35], .decIndHl), ([0x36, 0x34], .ldIndHlN8 0x34), ([0x37], .scf), ([0x38, 0x34], .jrCE8 0x34),
    ([0x39], .addHlSp), ([0x3A], .ldAHld), ([0x3B], .decSp), ([0x3C], .incA), ([0x3D], .decA),
    ([0x3E, 0x34], .ldAN8 0x34), ([0x3F], .ccf)] := rfl

theorem test_decode_rows_x1 : DecodeTo [
    ([0x40], .ldBB), ([0x41], .ldBC), ([0x42], .ldBD), ([0x43], .ldBE), ([0x44], .ldBH), ([0x45], .ldBL),
    ([0x46], .ldBIndHl), ([0x47], .ldBA), ([0x48], .ldCB), ([0x49], .ldCC), ([0x4A], .ldCD),
    ([0x4B], .ldCE), ([0x4C], .ldCH), ([0x4D], .ldCL), ([0x4E], .ldCIndHl), ([0x4F], .ldCA),
    ([0x50], .ldDB), ([0x51], .ldDC), ([0x52], .ldDD), ([0x53], .ldDE), ([0x54], .ldDH), ([0x55], .ldDL),
    ([0x56], .ldDIndHl), ([0x57], .ldDA), ([0x58], .ldEB), ([0x59], .ldEC), ([0x5A], .ldED),
    ([0x5B], .ldEE), ([0x5C], .ldEH), ([0x5D], .ldEL), ([0x5E], .ldEIndHl), ([0x5F], .ldEA),
    ([0x60], .ldHB), ([0x61], .ldHC), ([0x62], .ldHD), ([0x63], .ldHE), ([0x64], .ldHH), ([0x65], .ldHL),
    ([0x66], .ldHIndHl), ([0x67], .ldHA), ([0x68], .ldLB), ([0x69], .ldLC), ([0x6A], .ldLD),
    ([0x6B], .ldLE), ([0x6C], .ldLH), ([0x6D], .ldLL), ([0x6E], .ldLIndHl), ([0x6F], .ldLA),
    ([0x70], .ldIndHlB), ([0x71], .ldIndHlC), ([0x72], .ldIndHlD), ([0x73], .ldIndHlE), ([0x74], .ldIndHlH),
    ([0x75], .ldIndHlL), ([0x76], .halt), ([0x77], .ldIndHlA), ([0x78], .ldAB), ([0x79], .ldAC),
    ([0x7A], .ldAD), ([0x7B], .ldAE), ([0x7C], .ldAH), ([0x7D], .ldAL), ([0x7E], .ldAIndHl), ([0x7F], .ldAA)] := rfl

theorem test_decode_rows_x2 : DecodeTo [
    ([0x80], .addAB), ([0x81], .addAC), ([0x82], .addAD), ([0x83], .addAE), ([0x84], .addAH),
    ([0x85], .addAL), ([0x86], .addAIndHl), ([0x87], .addAA), ([0x88], .adcAB), ([0x89], .adcAC),
    ([0x8A], .adcAD), ([0x8B], .adcAE), ([0x8C], .adcAH), ([0x8D], .adcAL), ([0x8E], .adcAIndHl),
    ([0x8F], .adcAA), ([0x90], .subAB), ([0x91], .subAC), ([0x92], .subAD), ([0x93], .subAE),
    ([0x94], .subAH), ([0x95], .subAL), ([0x96], .subAIndHl), ([0x97], .subAA), ([0x98], .sbcAB),
    ([0x99], .sbcAC), ([0x9A], .sbcAD), ([0x9B], .sbcAE), ([0x9C], .sbcAH), ([0x9D], .sbcAL),
    ([0x9E], .sbcAIndHl), ([0x9F], .sbcAA), ([0xA0], .andAB), ([0xA1], .andAC), ([0xA2], .andAD),
    ([0xA3], .andAE), ([0xA4], .andAH), ([0xA5], .andAL), ([0xA6], .andAIndHl), ([0xA7], .andAA),
    ([0xA8], .xorAB), ([0xA9], .xorAC), ([0xAA], .xorAD), ([0xAB], .xorAE), ([0xAC], .xorAH),
    ([0xAD], .xorAL), ([0xAE], .xorAIndHl), ([0xAF], .xorAA), ([0xB0], .orAB), ([0xB1], .orAC),
    ([0xB2], .orAD), ([0xB3], .orAE), ([0xB4], .orAH), ([0xB5], .orAL), ([0xB6], .orAIndHl),
    ([0xB7], .orAA), ([0xB8], .cpAB), ([0xB9], .cpAC), ([0xBA], .cpAD), ([0xBB], .cpAE), ([0xBC], .cpAH),
    ([0xBD], .cpAL), ([0xBE], .cpAIndHl), ([0xBF], .cpAA)] := rfl

theorem test_decode_rows_x3 : DecodeTo [
    ([0xC0], .retNz), ([0xC1], .popBc), ([0xC2, 0x34, 0x12], .jpNzN16 0x1234),
    ([0xC3, 0x34, 0x12], .jpN16 0x1234), ([0xC4, 0x34, 0x12], .callNzN16 0x1234), ([0xC5], .pushBc),
    ([0xC6, 0x34], .addAN8 0x34), ([0xC7], .rst00), ([0xC8], .retZ), ([0xC9], .ret),
    ([0xCA, 0x34, 0x12], .jpZN16 0x1234), ([0xCC, 0x34, 0x12], .callZN16 0x1234),
    ([0xCD, 0x34, 0x12], .callN16 0x1234), ([0xCE, 0x34], .adcAN8 0x34), ([0xCF], .rst08), ([0xD0], .retNc),
    ([0xD1], .popDe), ([0xD2, 0x34, 0x12], .jpNcN16 0x1234), ([0xD4, 0x34, 0x12], .callNcN16 0x1234),
    ([0xD5], .pushDe), ([0xD6, 0x34], .subAN8 0x34), ([0xD7], .rst10), ([0xD8], .retC), ([0xD9], .reti),
    ([0xDA, 0x34, 0x12], .jpCN16 0x1234), ([0xDC, 0x34, 0x12], .callCN16 0x1234),
    ([0xDE, 0x34], .sbcAN8 0x34), ([0xDF], .rst18), ([0xE0, 0x34], .ldhIndN8A 0x34), ([0xE1], .popHl),
    ([0xE2], .ldhIndCA), ([0xE5], .pushHl), ([0xE6, 0x34], .andAN8 0x34), ([0xE7], .rst20),
    ([0xE8, 0x34], .addSpE8 0x34), ([0xE9], .jpHl), ([0xEA, 0x34, 0x12], .ldIndN16A 0x1234),
    ([0xEE, 0x34], .xorAN8 0x34), ([0xEF], .rst28), ([0xF0, 0x34], .ldhAIndN8 0x34), ([0xF1], .popAf),
    ([0xF2], .ldhAIndC), ([0xF3], .di), ([0xF5], .pushAf), ([0xF6, 0x34], .orAN8 0x34), ([0xF7], .rst30),
    ([0xF8, 0x34], .ldHlSpE8 0x34), ([0xF9], .ldSpHl), ([0xFA, 0x34, 0x12], .ldAIndN16 0x1234),
    ([0xFB], .ei), ([0xFE, 0x34], .cpAN8 0x34), ([0xFF], .rst38)] := rfl

theorem test_decode_rows_e0 : DecodeTo [
    ([0xCB, 0x00], .rlcB), ([0xCB, 0x01], .rlcC), ([0xCB, 0x02], .rlcD), ([0xCB, 0x03], .rlcE),
    ([0xCB, 0x04], .rlcH), ([0xCB, 0x05], .rlcL), ([0xCB, 0x06], .rlcIndHl), ([0xCB, 0x07], .rlcA),
    ([0xCB, 0x08], .rrcB), ([0xCB, 0x09], .rrcC), ([0xCB, 0x0A], .rrcD), ([0xCB, 0x0B], .rrcE),
    ([0xCB, 0x0C], .rrcH), ([0xCB, 0x0D], .rrcL), ([0xCB, 0x0E], .rrcIndHl), ([0xCB, 0x0F], .rrcA),
    ([0xCB, 0x10], .rlB), ([0xCB, 0x11], .rlC), ([0xCB, 0x12], .rlD), ([0xCB, 0x13], .rlE),
    ([0xCB, 0x14], .rlH), ([0xCB, 0x15], .rlL), ([0xCB, 0x16], .rlIndHl), ([0xCB, 0x17], .rlA),
    ([0xCB, 0x18], .rrB), ([0xCB, 0x19], .rrC), ([0xCB, 0x1A], .rrD), ([0xCB, 0x1B], .rrE),
    ([0xCB, 0x1C], .rrH), ([0xCB, 0x1D], .rrL), ([0xCB, 0x1E], .rrIndHl), ([0xCB, 0x1F], .rrA),
    ([0xCB, 0x20], .slaB), ([0xCB, 0x21], .slaC), ([0xCB, 0x22], .slaD), ([0xCB, 0x23], .slaE),
    ([0xCB, 0x24], .slaH), ([0xCB, 0x25], .slaL), ([0xCB, 0x26], .slaIndHl), ([0xCB, 0x27], .slaA),
    ([0xCB, 0x28], .sraB), ([0xCB, 0x29], .sraC), ([0xCB, 0x2A], .sraD), ([0xCB, 0x2B], .sraE),
    ([0xCB, 0x2C], .sraH), ([0xCB, 0x2D], .sraL), ([0xCB, 0x2E], .sraIndHl), ([0xCB, 0x2F], .sraA),
    ([0xCB, 0x30], .swapB), ([0xCB, 0x31], .swapC), ([0xCB, 0x32], .swapD), ([0xCB, 0x33], .swapE),
    ([0xCB, 0x34], .swapH), ([0xCB, 0x35], .swapL), ([0xCB, 0x36], .swapIndHl), ([0xCB, 0x37], .swapA),
    ([0xCB, 0x38], .srlB), ([0xCB, 0x39], .srlC), ([0xCB, 0x3A], .srlD), ([0xCB, 0x3B], .srlE),
    ([0xCB, 0x3C], .srlH), ([0xCB, 0x3D], .srlL), ([0xCB, 0x3E], .srlIndHl), ([0xCB, 0x3F], .srlA)] := rfl

theorem test_decode_rows_e1 : DecodeTo [
    ([0xCB, 0x68], .bitB 5), ([0xCB, 0x69], .bitC 5), ([0xCB, 0x6A], .bitD 5), ([0xCB, 0x6B], .bitE 5),
    ([0xCB, 0x6C], .bitH 5), ([0xCB, 0x6D], .bitL 5), ([0xCB, 0x6E], .bitIndHl 5), ([0xCB, 0x6F], .bitA 5)] := rfl

theorem test_decode_rows_e2 : DecodeTo [
    ([0xCB, 0xA8], .resB 5), ([0xCB, 0xA9], .resC 5), ([0xCB, 0xAA], .resD 5), ([0xCB, 0xAB], .resE 5),
    ([0xCB, 0xAC], .resH 5), ([0xCB, 0xAD], .resL 5), ([0xCB, 0xAE], .resIndHl 5), ([0xCB, 0xAF], .resA 5)] := rfl

theorem test_decode_rows_e3 : DecodeTo [
    ([0xCB, 0xE8], .setB 5), ([0xCB, 0xE9], .setC 5), ([0xCB, 0xEA], .setD 5), ([0xCB, 0xEB], .setE 5),
    ([0xCB, 0xEC], .setH 5), ([0xCB, 0xED], .setL 5), ([0xCB, 0xEE], .setIndHl 5), ([0xCB, 0xEF], .setA 5)] := rfl

/-! ### Decoding: words written out bit by bit, and bytes that are no instruction -/

/-- 00 rrr 110: LD r,n8 with r = 111 (30_encoding R59; 40_load8 R96). -/
theorem test_decode_ld_a_n8 : decode [0b00111110, 0x05] = .ok (.ldAN8 0x05, []) := rfl

/-- 10 alu rrr: SBC A,D with alu = 011, r = 010 (30_encoding R63; 42_alu8 R135). -/
theorem test_decode_sbc_a_d : decode [0b10011010] = .ok (.sbcAD, []) := rfl

/-- 11 rp2 0101: PUSH AF with rp2 = 11 (30_encoding R61; 41_load16_stack R120). -/
theorem test_decode_push_af : decode [0b11110101] = .ok (.pushAf, []) := rfl

/-- 00 rp 1001: ADD HL,SP with rp = 11 (30_encoding R60; 43_alu16 R160). -/
theorem test_decode_add_hl_sp : decode [0b00111001] = .ok (.addHlSp, []) := rfl

/-- 11 0cc 010: JP C,n16 with cc = 11, the low byte first (30_encoding R62, R67; 45_control R191). -/
theorem test_decode_jp_c_n16 : decode [0b11011010, 0x34, 0x12] = .ok (.jpCN16 0x1234, []) := rfl

/-- 11001011, 01 bbb rrr: BIT 7,H with b = 111, r = 100 (30_encoding R73; 44_rotate_shift_bit R182). -/
theorem test_decode_bit_7_h : decode [0b11001011, 0b01111100] = .ok (.bitH 7, []) := rfl

/-- 11 ttt 111: RST 0x28 with t = 101 (30_encoding R65; 45_control R199). -/
theorem test_decode_rst_28 : decode [0b11101111] = .ok (.rst28, []) := rfl

/-- 11111011: EI (46_misc R204). -/
theorem test_decode_ei : decode [0b11111011] = .ok (.ei, []) := rfl

/-- The eleven bytes of 30_encoding R74. -/
theorem test_decode_unmapped :
    ([0xD3, 0xDB, 0xDD, 0xE3, 0xE4, 0xEB, 0xEC, 0xED, 0xF4, 0xFC, 0xFD] : List Byte).map (fun b => decode [b, 0, 0]) =
    ([0xD3, 0xDB, 0xDD, 0xE3, 0xE4, 0xEB, 0xEC, 0xED, 0xF4, 0xFC, 0xFD] : List Byte).map
      (fun b => .error (.unmapped b)) := rfl

theorem test_decode_truncated : decode [0xC3, 0x00] = .error .truncated ∧ decode [0xCB] = .error .truncated :=
  ⟨rfl, rfl⟩

/-- Words as spec/opcode_table.json numbers them (log entry 8). -/
theorem test_decode_table_words :
    decodeTableWord 8 0x41 = some .ldBC ∧ decodeTableWord 24 0x123401 = some (.ldBcN16 0x1234) ∧
    decodeTableWord 16 0xCB37 = some .swapA ∧ decodeTableWord 16 0xCBFE = some (.setIndHl 7) ∧
    decodeTableWord 16 0x053E = some (.ldAN8 5) ∧ decodeTableWord 8 0xD3 = none := by
  decide

/-! ### One step, by the vectors of 95_test_vectors -/

/-- The vectors' start: the launch state with PC = 0x0100, memory and parameters as given, then the
registers the vector lists. -/
def start (bytes : List Byte) (mem : Memory) (c : Config) (f : State → State) : State :=
  let s : State := { State.reset with pc := 0x0100, mem := mem, config := c }
  let t := f s
  storeBytes t.fetchAddrs bytes t

/-- What one step leaves, read by `view`; `none` if the step gives no next state. -/
def after {α : Type} (view : State → α) (s : State) : Option α :=
  match step s with
  | .next t => some (view t)
  | .fault _ => none
  | .refused _ => none

/-- LD B,C (R95). -/
theorem test_v40_1 : after (fun t => (t.b, t.pc))
    (start [0x41] [] .default
      (fun s => { s with c := 0x7E })) = some (0x7E, 0x0101) := by
  decide

/-- LD H,(HL) (R97). -/
theorem test_v40_7 : after (fun t => (t.h, t.pc))
    (start [0x66] [(0xC010, 0xD0)] .default
      (fun s => { s with h := 0xC0, l := 0x10 })) = some (0xD0, 0x0101) := by
  decide

/-- LD (HL),H stores the high byte of the address (R98). -/
theorem test_v40_9 : after (fun t => (t.peek 0xC020, t.pc))
    (start [0x74] [] .default
      (fun s => { s with h := 0xC0, l := 0x20 })) = some (0xC0, 0x0101) := by
  decide

/-- LD A,(0xD000) (R104). -/
theorem test_v40_15 : after (fun t => (t.a, t.pc))
    (start [0xFA, 0x00, 0xD0] [(0xD000, 0x5E)] .default
      id) = some (0x5E, 0x0103) := by
  decide

/-- LDH A,(C) at C=0x00 reads 0xFF00 (R106). -/
theorem test_v40_17 : after (fun t => (t.a, t.pc))
    (start [0xF2] [(0xFF00, 0x0F)] .default
      (fun s => { s with c := 0x00 })) = some (0x0F, 0x0101) := by
  decide

/-- LDH A,(0x44) reads 0xFF44, not 0x0143 (90_conflicts.md C2) (R108). -/
theorem test_v40_20 : after (fun t => (t.a, t.pc))
    (start [0xF0, 0x44] [(0x0143, 0xEE), (0xFF44, 0x90)] .default
      id) = some (0x90, 0x0102) := by
  decide

/-- LD A,(HL+) at 0xFFFF (R110). -/
theorem test_v40_23 : after (fun t => (t.a, t.h, t.l, t.pc))
    (start [0x2A] [(0xFFFF, 0x01)] .default
      (fun s => { s with h := 0xFF, l := 0xFF })) = some (0x01, 0x00, 0x00, 0x0101) := by
  decide

/-- LD A,(HL-) at 0x0000 (R111). -/
theorem test_v40_24 : after (fun t => (t.a, t.h, t.l, t.pc))
    (start [0x3A] [(0x0000, 0x02)] .default
      (fun s => { s with h := 0x00, l := 0x00 })) = some (0x02, 0xFF, 0xFF, 0x0101) := by
  decide

/-- LD (HL+),A (R112). -/
theorem test_v40_25 : after (fun t => (t.l, t.peek 0xC200, t.pc))
    (start [0x22] [] .default
      (fun s => { s with h := 0xC2, l := 0x00, a := 0x61 })) = some (0x01, 0x61, 0x0101) := by
  decide

/-- LD BC,0x1234 (R116). -/
theorem test_v41_1 : after (fun t => (t.b, t.c, t.pc))
    (start [0x01, 0x34, 0x12] [] .default
      id) = some (0x12, 0x34, 0x0103) := by
  decide

/-- LD (0xFFFF),SP under U16_WRAP=Wrap (R117). -/
theorem test_v41_4 : after (fun t => (t.peek 0x0000, t.peek 0xFFFF, t.pc))
    (start [0x08, 0xFF, 0xFF] [] .default
      (fun s => { s with sp := 0xABCD })) = some (0xAB, 0xCD, 0x0103) := by
  decide

/-- same under Linear (R117). -/
theorem test_v41_5 : after (fun t => (t.peek 0xFFFF, t.pc, t.log))
    (start [0x08, 0xFF, 0xFF] [] { Config.default with u16Wrap := .linear }
      (fun s => { s with sp := 0xABCD })) = some (0xCD, 0x0103, [.write 0x10000 0xAB]) := by
  decide

/-- LD HL,SP-128 under Keep (R119). -/
theorem test_v41_8 : after (fun t => (t.h, t.l, t.f, t.pc))
    (start [0xF8, 0x80] [] .default
      (fun s => { s with sp := 0x0000, f := 0xF0 })) = some (0xFF, 0x80, 0xF0, 0x0102) := by
  decide

/-- SP-1 under SM83 (R119). -/
theorem test_v41_10 : after (fun t => (t.h, t.l, t.f, t.pc))
    (start [0xF8, 0xFF] [] { Config.default with speLoadFlags := .sm83 }
      (fun s => { s with sp := 0x0001, f := 0x00 })) = some (0x00, 0x00, 0x30, 0x0102) := by
  decide

/-- PUSH HL at SP=0xFFFF, Up (R120). -/
theorem test_v41_13 : after (fun t => (t.sp, t.peek 0x0000, t.peek 0xFFFF, t.pc))
    (start [0xE5] [] .default
      (fun s => { s with sp := 0xFFFF, h := 0xBE, l := 0xEF })) = some (0x0001, 0xBE, 0xEF, 0x0101) := by
  decide

/-- PUSH AF stores F with its low bits (R120). -/
theorem test_v41_14 : after (fun t => (t.sp, t.f, t.peek 0xC000, t.peek 0xC001, t.pc))
    (start [0xF5] [] .default
      (fun s => { s with sp := 0xC000, a := 0x12, f := 0xB5 })) = some (0xC002, 0xB5, 0xB5, 0x12, 0x0101) := by
  decide

/-- POP DE, Down (R121). -/
theorem test_v41_16 : after (fun t => (t.d, t.e, t.sp, t.pc))
    (start [0xD1] [(0xC000, 0x78), (0xC001, 0x56)] { Config.default with stackDir := .down }
      (fun s => { s with sp := 0xC000 })) = some (0x56, 0x78, 0xC002, 0x0101) := by
  decide

/-- POP AF, F_LOW=Zero (R121). -/
theorem test_v41_18 : after (fun t => (t.a, t.sp, t.f, t.pc))
    (start [0xF1] [(0xC000, 0xFF), (0xC001, 0x12)] { Config.default with fLow := .zero }
      (fun s => { s with sp := 0xC002 })) = some (0x12, 0xC000, 0xF0, 0x0101) := by
  decide

/-- half-carry from bit 3 (R126). -/
theorem test_v42_2 : after (fun t => (t.a, t.f, t.pc))
    (start [0x81] [] .default
      (fun s => { s with a := 0x0F, c := 0x01, f := 0x00 })) = some (0x10, 0x20, 0x0101) := by
  decide

/-- ADC (R129). -/
theorem test_v42_8 : after (fun t => (t.a, t.f, t.pc))
    (start [0x89] [] .default
      (fun s => { s with a := 0x0E, c := 0x01, f := 0x10 })) = some (0x10, 0x20, 0x0101) := by
  decide

/-- SBC (R135). -/
theorem test_v42_16 : after (fun t => (t.a, t.f, t.pc))
    (start [0x99] [] .default
      (fun s => { s with a := 0x10, c := 0x0F, f := 0x10 })) = some (0x00, 0xE0, 0x0101) := by
  decide

/-- SBC A,(HL) (R136). -/
theorem test_v42_17 : after (fun t => (t.a, t.f, t.pc))
    (start [0x9E] [(0xC000, 0x4F)] .default
      (fun s => { s with a := 0x3B, h := 0xC0, l := 0x00, f := 0x10 })) = some (0xEB, 0x70, 0x0101) := by
  decide

/-- AND (R138). -/
theorem test_v42_19 : after (fun t => (t.a, t.f, t.pc))
    (start [0xA0] [] .default
      (fun s => { s with a := 0xF0, b := 0x0F, f := 0x10 })) = some (0x00, 0xA0, 0x0101) := by
  decide

/-- OR 0x80 (R146). -/
theorem test_v42_27 : after (fun t => (t.a, t.f, t.pc))
    (start [0xF6, 0x80] [] .default
      (fun s => { s with a := 0x01, f := 0xF0 })) = some (0x81, 0x00, 0x0102) := by
  decide

/-- XOR A (the source's 0xAF scenario) (R141). -/
theorem test_v42_22 : after (fun t => (t.a, t.f, t.pc))
    (start [0xAF] [] .default
      (fun s => { s with a := 0x5C, f := 0x70 })) = some (0x00, 0x80, 0x0101) := by
  decide

/-- CP B with A<B (R147). -/
theorem test_v42_29 : after (fun t => (t.f, t.pc))
    (start [0xB8] [] .default
      (fun s => { s with a := 0x10, b := 0x20, f := 0x00 })) = some (0x50, 0x0101) := by
  decide

/-- INC A at 0xFF with C=1 (R150). -/
theorem test_v42_32 : after (fun t => (t.a, t.f, t.pc))
    (start [0x3C] [] .default
      (fun s => { s with a := 0xFF, f := 0x10 })) = some (0x00, 0xB0, 0x0101) := by
  decide

/-- DEC C (R152). -/
theorem test_v42_37 : after (fun t => (t.c, t.f, t.pc))
    (start [0x0D] [] .default
      (fun s => { s with c := 0x10, f := 0x10 })) = some (0x0F, 0x70, 0x0101) := by
  decide

/-- DEC (HL) (R153). -/
theorem test_v42_39 : after (fun t => (t.f, t.peek 0xC000, t.pc))
    (start [0x35] [(0xC000, 0x00)] .default
      (fun s => { s with h := 0xC0, l := 0x00, f := 0x00 })) = some (0x60, 0xFF, 0x0101) := by
  decide

/-- DAA after 0x99+0x01 (R154). -/
theorem test_v42_41 : after (fun t => (t.a, t.f, t.pc))
    (start [0x27] [] .default
      (fun s => { s with a := 0x9A, f := 0x00 })) = some (0x00, 0x90, 0x0101) := by
  decide

/-- DAA after 0x10-0x01 (N and H) (R154). -/
theorem test_v42_43 : after (fun t => (t.a, t.f, t.pc))
    (start [0x27] [] .default
      (fun s => { s with a := 0x0F, f := 0x60 })) = some (0x09, 0x40, 0x0101) := by
  decide

/-- CPL (R155). -/
theorem test_v42_45 : after (fun t => (t.a, t.f, t.pc))
    (start [0x2F] [] .default
      (fun s => { s with a := 0x35, f := 0x90 })) = some (0xCA, 0xF0, 0x0101) := by
  decide

/-- SCF (R156). -/
theorem test_v42_46 : after (fun t => (t.f, t.pc))
    (start [0x37] [] .default
      (fun s => { s with f := 0xE0 })) = some (0x90, 0x0101) := by
  decide

/-- CCF with C=1 (R157). -/
theorem test_v42_47 : after (fun t => (t.f, t.pc))
    (start [0x3F] [] .default
      (fun s => { s with f := 0x10 })) = some (0x00, 0x0101) := by
  decide

/-- INC BC wraps; no flag changes (R158). -/
theorem test_v43_1 : after (fun t => (t.b, t.c, t.f, t.pc))
    (start [0x03] [] .default
      (fun s => { s with b := 0xFF, c := 0xFF, f := 0xF0 })) = some (0x00, 0x00, 0xF0, 0x0101) := by
  decide

/-- DEC DE (R159). -/
theorem test_v43_4 : after (fun t => (t.d, t.e, t.pc))
    (start [0x1B] [] .default
      (fun s => { s with d := 0x01, e := 0x00 })) = some (0x00, 0xFF, 0x0101) := by
  decide

/-- ADD HL,BC, H16_MASK=0x0100 (R160). -/
theorem test_v43_5 : after (fun t => (t.h, t.l, t.f, t.pc))
    (start [0x09] [] .default
      (fun s => { s with h := 0x8A, l := 0x23, b := 0x06, c := 0x05, f := 0x00 })) = some (0x90, 0x28, 0x00, 0x0101) := by
  decide

/-- same, H16_MASK=0x1000 (R160). -/
theorem test_v43_6 : after (fun t => (t.h, t.l, t.f, t.pc))
    (start [0x09] [] { Config.default with h16Mask := .m1000 }
      (fun s => { s with h := 0x8A, l := 0x23, b := 0x06, c := 0x05, f := 0x00 })) = some (0x90, 0x28, 0x20, 0x0101) := by
  decide

/-- same, Z16_ADD=Keep (R160). -/
theorem test_v43_8 : after (fun t => (t.h, t.f, t.pc))
    (start [0x29] [] { Config.default with z16Add := .keep }
      (fun s => { s with h := 0x80, l := 0x00, f := 0x00 })) = some (0x00, 0x10, 0x0101) := by
  decide

/-- ADD SP,-1 from 0 (R161). -/
theorem test_v43_12 : after (fun t => (t.sp, t.f, t.pc))
    (start [0xE8, 0xFF] [] .default
      (fun s => { s with sp := 0x0000, f := 0xC0 })) = some (0xFFFF, 0x00, 0x0102) := by
  decide

/-- RLCA of 0 (R162). -/
theorem test_v44_2 : after (fun t => (t.f, t.pc))
    (start [0x07] [] .default
      (fun s => { s with a := 0x00, f := 0x80 })) = some (0x00, 0x0101) := by
  decide

/-- RLA with C=1 (R164). -/
theorem test_v44_5 : after (fun t => (t.a, t.f, t.pc))
    (start [0x17] [] .default
      (fun s => { s with a := 0x55, f := 0x10 })) = some (0xAB, 0x00, 0x0101) := by
  decide

/-- RLC A of 0 (R166). -/
theorem test_v44_8 : after (fun t => (t.f, t.pc))
    (start [0xCB, 0x07] [] .default
      (fun s => { s with a := 0x00, f := 0x10 })) = some (0x80, 0x0102) := by
  decide

/-- RLC (HL) (R167). -/
theorem test_v44_9 : after (fun t => (t.f, t.peek 0xC000, t.pc))
    (start [0xCB, 0x06] [(0xC000, 0x81)] .default
      (fun s => { s with h := 0xC0, l := 0x00, f := 0x00 })) = some (0x10, 0x03, 0x0102) := by
  decide

/-- RR (HL) with C=1 (R173). -/
theorem test_v44_15 : after (fun t => (t.f, t.peek 0xC000, t.pc))
    (start [0xCB, 0x1E] [(0xC000, 0x00)] .default
      (fun s => { s with h := 0xC0, l := 0x00, f := 0x10 })) = some (0x00, 0x80, 0x0102) := by
  decide

/-- SRA L keeps bit 7 (R176). -/
theorem test_v44_18 : after (fun t => (t.l, t.f, t.pc))
    (start [0xCB, 0x2D] [] .default
      (fun s => { s with l := 0x81, f := 0x00 })) = some (0xC0, 0x10, 0x0102) := by
  decide

/-- SWAP A (R178). -/
theorem test_v44_20 : after (fun t => (t.a, t.f, t.pc))
    (start [0xCB, 0x37] [] .default
      (fun s => { s with a := 0xF0, f := 0x10 })) = some (0x0F, 0x00, 0x0102) := by
  decide

/-- SRL A of 1 (R180). -/
theorem test_v44_23 : after (fun t => (t.a, t.f, t.pc))
    (start [0xCB, 0x3F] [] .default
      (fun s => { s with a := 0x01, f := 0x00 })) = some (0x00, 0x90, 0x0102) := by
  decide

/-- BIT 7,H (R182). -/
theorem test_v44_25 : after (fun t => (t.f, t.pc))
    (start [0xCB, 0x7C] [] .default
      (fun s => { s with h := 0x80, f := 0x50 })) = some (0x30, 0x0102) := by
  decide

/-- BIT 4,(HL) (R183). -/
theorem test_v44_28 : after (fun t => (t.f, t.pc))
    (start [0xCB, 0x66] [(0xC000, 0x10)] .default
      (fun s => { s with h := 0xC0, l := 0x00, f := 0x00 })) = some (0x20, 0x0102) := by
  decide

/-- RES 7,A (R184). -/
theorem test_v44_29 : after (fun t => (t.a, t.f, t.pc))
    (start [0xCB, 0xBF] [] .default
      (fun s => { s with a := 0xFF, f := 0xF0 })) = some (0x7F, 0xF0, 0x0102) := by
  decide

/-- SET 7,(HL) (R187). -/
theorem test_v44_33 : after (fun t => (t.peek 0xC000, t.pc))
    (start [0xCB, 0xFE] [(0xC000, 0x00)] .default
      (fun s => { s with h := 0xC0, l := 0x00 })) = some (0x80, 0x0102) := by
  decide

/-- JP HL (R190). -/
theorem test_v45_2 : after (fun t => t.pc)
    (start [0xE9] [] .default
      (fun s => { s with h := 0x40, l := 0x00 })) = some 0x4000 := by
  decide

/-- JP C taken (R191). -/
theorem test_v45_5 : after (fun t => (t.f, t.pc))
    (start [0xDA, 0x00, 0x20] [] .default
      (fun s => { s with f := 0x10 })) = some (0x10, 0x2000) := by
  decide

/-- JR -128 (R192). -/
theorem test_v45_8 : after (fun t => t.pc)
    (start [0x18, 0x80] [] .default
      id) = some 0x0082 := by
  decide

/-- JR across 0xFFFF (R192). -/
theorem test_v45_10 : after (fun t => t.pc)
    (start [0x18, 0x01] [] .default
      (fun s => { s with pc := 0xFFFE })) = some 0x0001 := by
  decide

/-- JR Z not taken (R193). -/
theorem test_v45_12 : after (fun t => (t.f, t.pc))
    (start [0x28, 0x10] [] .default
      (fun s => { s with f := 0x00 })) = some (0x00, 0x0102) := by
  decide

/-- CALL 0x2000, Down (R194). -/
theorem test_v45_15 : after (fun t => (t.sp, t.peek 0xCFFE, t.peek 0xCFFF, t.pc))
    (start [0xCD, 0x00, 0x20] [] { Config.default with stackDir := .down }
      (fun s => { s with sp := 0xD000 })) = some (0xCFFE, 0x03, 0x01, 0x2000) := by
  decide

/-- CALL NC not taken (R195). -/
theorem test_v45_17 : after (fun t => (t.f, t.pc))
    (start [0xD4, 0x00, 0x20] [] .default
      (fun s => { s with sp := 0xC000, f := 0x10 })) = some (0x10, 0x0103) := by
  decide

/-- RET, Down (R196). -/
theorem test_v45_19 : after (fun t => (t.sp, t.pc))
    (start [0xC9] [(0xCFFE, 0x03), (0xCFFF, 0x01)] { Config.default with stackDir := .down }
      (fun s => { s with sp := 0xCFFE })) = some (0xD000, 0x0103) := by
  decide

/-- RET NZ not taken (R197). -/
theorem test_v45_21 : after (fun t => (t.f, t.pc))
    (start [0xC0] [] .default
      (fun s => { s with sp := 0xC002, f := 0x80 })) = some (0x80, 0x0101) := by
  decide

/-- RETI = RET (R198). -/
theorem test_v45_22 : after (fun t => (t.sp, t.pc))
    (start [0xD9] [(0xC000, 0x34), (0xC001, 0x12)] .default
      (fun s => { s with sp := 0xC002 })) = some (0xC000, 0x1234) := by
  decide

/-- RST 0x00 (R199). -/
theorem test_v45_24 : after (fun t => (t.sp, t.peek 0xC000, t.peek 0xC001, t.pc))
    (start [0xC7] [] .default
      (fun s => { s with pc := 0x1234, sp := 0xC000 })) = some (0xC002, 0x35, 0x12, 0x0000) := by
  decide

/-- NOP at 0xFFFF (R200). -/
theorem test_v46_2 : after (fun t => t.pc)
    (start [0x00] [] .default
      (fun s => { s with pc := 0xFFFF })) = some 0x0000 := by
  decide

theorem test_v46_3 : let s := start [0x76] [] .default id
    step s = .next (s.setStatus (.faulted .unimplementedInstruction (.primary 0x76) 0x0100)) := rfl

theorem test_v46_4 : let s := start [0x10, 0x00] [] .default id
    step s = .next (s.setStatus (.faulted .unimplementedInstruction (.primary 0x10) 0x0100)) := rfl

/-- EI (R204). -/
theorem test_v46_6 : after (fun t => (t.f, t.pc))
    (start [0xFB] [] .default
      (fun s => { s with f := 0x50 })) = some (0x50, 0x0101) := by
  decide

theorem test_v60_1 : let s := start [0xD3] [] .default id
    step s = .next (s.setStatus (.faulted .unmappedOpcode (.primary 0xD3) 0x0100)) := rfl

theorem test_v60_13 : let s := start [0xCB, 0x37] [] { Config.default with excluded := [.escape 0x37] } id
    step s = .next (s.setStatus (.faulted .unimplementedInstruction (.escape 0x37) 0x0100)) := rfl

/-- read at 0x9000 with MEM_SIZE=0x8000 gives 0, logged (R36). -/
theorem test_v20_1 : after (fun t => (t.a, t.pc, t.log))
    (start [0xFA, 0x00, 0x90] [] { Config.default with memSize := 0x8000 }
      (fun s => { s with a := 0x77 })) = some (0x00, 0x0103, [.read 0x9000]) := by
  decide

/-- write at 0x9000 is discarded, logged (R36). -/
theorem test_v20_2 : after (fun t => (t.pc, t.log))
    (start [0xEA, 0x00, 0x90] [] { Config.default with memSize := 0x8000 }
      (fun s => { s with a := 0x77 })) = some (0x0103, [.write 0x9000 0x77]) := by
  decide

/-- same under Linear (R39). -/
theorem test_v20_6 : after (fun t => (t.b, t.c, t.sp, t.pc, t.log))
    (start [0xC1] [(0xFFFF, 0xCD)] { Config.default with u16Wrap := .linear }
      (fun s => { s with sp := 0x0001 })) = some (0x00, 0xCD, 0xFFFF, 0x0101, [.read 0x10000]) := by
  decide

/-- LD (HL),0 over its own opcode (R223). -/
theorem test_v70_1 : after (fun t => (t.peek 0xC000, t.pc))
    (start [0x36, 0x00] [] .default
      (fun s => { s with pc := 0xC000, h := 0xC0, l := 0x00 })) = some (0x00, 0xC002) := by
  decide

/-! ### Reset and placing a word (log entry 10) -/

/-- The reset state's PC and status (10_state R30, R34), and an in-range byte nothing has written. -/
theorem test_reset : State.reset.pc = 0x0000 ∧ State.reset.status = .running ∧ State.reset.peek 0xFFFF = 0x5A := by
  decide

/-- A placed word runs as the first instruction after reset: RST 0x38 by its table word. -/
theorem test_place_rst_38 : after (fun t => (t.pc, t.sp)) (State.reset.withFetchWord 8 0xFF) =
    some (0x0038, 0x5A5C) := by
  decide

/-- A placed escape word: SET 7,A by its table word. -/
theorem test_place_set_7_a : after (fun t => (t.a, t.pc)) (State.reset.withFetchWord 16 0xCBFF) =
    some (0xDA, 0x0002) := by
  decide

/-- A placed three-byte word with operands: LD BC,0x1234. -/
theorem test_place_ld_bc : after (fun t => (t.b, t.c, t.pc)) (State.reset.withFetchWord 24 0x123401) =
    some (0x12, 0x34, 0x0003) := by
  decide

/-- Writing the byte an unlisted address reads as removes the entry (log entry 2). -/
theorem test_memory_canonical : Memory.set [(3, 0x01), (7, 0x02)] 3 0x5A = [(7, 0x02)] ∧
    Memory.set [(3, 0x01), (7, 0x02)] 5 0x09 = [(3, 0x01), (5, 0x09), (7, 0x02)] := by
  decide

/-! ### Witnesses: states and operands that meet the hypotheses of the statements -/

/-- Default parameters with the stack growing down. -/
def down : Config := { Config.default with stackDir := .down }

/-- Default parameters with half of the space backed. -/
def half : Config := { Config.default with memSize := 0x8000 }

/-- Default parameters with words that do not wrap. -/
def linear : Config := { Config.default with u16Wrap := .linear }

theorem witness_DecodeInvertsEncode : (Instr.bitB 7).wellFormed = true ∧ (Instr.setIndHl 0).wellFormed = true := by
  decide

theorem witness_EncodeInvertsDecode :
    decode [0xCB, 0xFF, 0x01] = .ok (.setA 7, [0x01]) ∧ decode [0x10, 0xFF, 0x01] = .ok (.stop, [0x01]) :=
  ⟨rfl, rfl⟩

theorem witness_StepRunsDecodedInstruction : let s := start [0x80] [] .default id
    s.status = .running ∧ decode s.window = .ok (.addAB, [0x5A, 0x5A]) ∧ s.config.implements s.key = true :=
  ⟨rfl, rfl, rfl⟩

theorem witness_StepRunsDecodedInstruction_halt : let s := start [0x76] [] .default id
    s.status = .running ∧ decode s.window = .ok (.halt, [0x5A, 0x5A]) :=
  ⟨rfl, rfl⟩

theorem witness_StepRunsDecodedInstruction_stop : let s := start [0x10, 0x34] [] .default id
    s.status = .running ∧ decode s.window = .ok (.stop, [0x5A]) :=
  ⟨rfl, rfl⟩

/-- The immediate of an instruction at 0xFFFF is at 0x0000 and 0x0001 (RunsFetched). -/
theorem witness_RunsFetched : let s := start [0xC2, 0x00, 0x20] [] .default (fun s => { s with pc := 0xFFFF })
    s.status = .running ∧ s.config.implements s.key = true ∧
    s.window.take (encode (.jpNzN16 0x2000)).length = encode (.jpNzN16 0x2000) ∧ s.peek 0x0001 = 0x20 :=
  ⟨rfl, rfl, rfl, rfl⟩

theorem witness_UnmappedBytesRaise : let s := start [0xFD] [] .default id
    s.status = .running ∧ s.peek s.pc.toNat ∈
      ([0xD3, 0xDB, 0xDD, 0xE3, 0xE4, 0xEB, 0xEC, 0xED, 0xF4, 0xFC, 0xFD] : List Byte) := by
  decide

theorem witness_UnimplementedKeysRaise : let s := start [0xCB, 0x37] [] { half with excluded := [.escape 0x37] } id
    s.status = .running ∧ s.key.mapped = true ∧ s.config.implements s.key = false := by
  decide

theorem witness_FaultedIsTerminal :
    (State.reset.setStatus (.faulted .unmappedOpcode (.primary 0xD3) 0x0000)).status =
      .faulted .unmappedOpcode (.primary 0xD3) 0x0000 ∧
    Run (State.reset.setStatus (.faulted .unmappedOpcode (.primary 0xD3) 0x0000))
      (State.reset.setStatus (.faulted .unmappedOpcode (.primary 0xD3) 0x0000)) :=
  ⟨rfl, .refl _⟩

theorem witness_RunningStepsStopOnlyAtDispatch : State.reset.status = .running := rfl

theorem witness_ErrorsArePrecise : ∃ t : State, (start [0xD3] [] .default id).status = .running ∧
    step (start [0xD3] [] .default id) = .next t ∧ t.status = .faulted .unmappedOpcode (.primary 0xD3) 0x0100 :=
  ⟨_, rfl, rfl, rfl⟩

theorem witness_LdHlSpOffset : State.reset.config.speLoadFlags = .keep ∧
    (start [] [] { Config.default with speLoadFlags := .sm83 } id).config.speLoadFlags = .sm83 := by
  decide

theorem witness_stack_directions :
    (start [] [] .default id).config.stackDir = .up ∧ (start [] [] down id).config.stackDir = .down := by
  decide

/-- PopInvertsPush with SP = 0xFFFF, growing up, the second byte at 0x0000. -/
theorem witness_PopInvertsPush_up : let s := start [] [] .default (fun s => { s with sp := 0xFFFF })
    (s.config.stackDir = .up → (0xFFFF : Word) = s.sp ∧ (0x0001 : Word) = s.sp + 2) ∧
    (s.config.stackDir = .down → (0xFFFF : Word) = s.sp - 2 ∧ (0x0001 : Word) = s.sp - 2) ∧
    s.inRange (0xFFFF : Word).toNat = true ∧ s.inRange (secondAddr s.config 0xFFFF) = true := by
  decide

/-- PopInvertsPush with SP = 0x0000, growing down. -/
theorem witness_PopInvertsPush_down : let s := start [] [] down (fun s => { s with sp := 0x0000 })
    (s.config.stackDir = .up → (0xFFFE : Word) = s.sp ∧ (0xFFFE : Word) = s.sp + 2) ∧
    (s.config.stackDir = .down → (0xFFFE : Word) = s.sp - 2 ∧ (0xFFFE : Word) = s.sp - 2) ∧
    s.inRange (0xFFFE : Word).toNat = true ∧ s.inRange (secondAddr s.config 0xFFFE) = true := by
  decide

theorem witness_PopLoadsPair_up : let s := start [] [] .default (fun s => { s with sp := 0x0001 })
    (s.config.stackDir = .up → (0xFFFF : Word) = s.sp - 2 ∧ (0xFFFF : Word) = s.sp - 2) ∧
    (s.config.stackDir = .down → (0xFFFF : Word) = s.sp ∧ (0xFFFF : Word) = s.sp + 2) := by
  decide

theorem witness_PopLoadsPair_down : let s := start [] [] down (fun s => { s with sp := 0xFFFE })
    (s.config.stackDir = .up → (0xFFFE : Word) = s.sp - 2 ∧ (0x0000 : Word) = s.sp - 2) ∧
    (s.config.stackDir = .down → (0xFFFE : Word) = s.sp ∧ (0x0000 : Word) = s.sp + 2) := by
  decide

/-- The last backed address and the first that is not. -/
theorem witness_ByteAccessesAreBounded :
    0x7FFF < (start [] [] half id).config.memSize ∧ 0x8000 ≥ (start [] [] half id).config.memSize ∧
    0xFFFF < State.reset.config.memSize ∧ 0x10000 ≥ State.reset.config.memSize := by
  decide

theorem witness_WordAccesses_wrap :
    (State.reset.config.u16Wrap = .wrap → 0 = ((0xFFFF : Word).toNat + 1) % 65536) ∧
    (State.reset.config.u16Wrap = .linear → 0 = (0xFFFF : Word).toNat + 1) := by
  decide

theorem witness_WordAccesses_linear : let s := start [] [] linear id
    (s.config.u16Wrap = .wrap → 65536 = ((0xFFFF : Word).toNat + 1) % 65536) ∧
    (s.config.u16Wrap = .linear → 65536 = (0xFFFF : Word).toNat + 1) := by
  decide

theorem witness_WordRoundTrips :
    (State.reset.inRange (0xFFFF : Word).toNat = true ∧
      State.reset.inRange (secondAddr State.reset.config 0xFFFF) = true) ∧
    (start [] [] half id).inRange (0x8000 : Word).toNat = false ∧
    (start [] [] half id).inRange (secondAddr half 0x7FFF) = false ∧
    (start [] [] linear id).inRange (secondAddr linear 0xFFFF) = false := by
  decide

theorem witness_CanonicalMemoriesAreEqual : Memory.wf [(0, 0x01), (0xFFFF, 0x02)] = true ∧
    ∀ k : Nat, Memory.get [(0, 0x01), (0xFFFF, 0x02)] k = Memory.get [(0, 0x01), (0xFFFF, 0x02)] k :=
  ⟨by decide, fun _ => rfl⟩

theorem witness_FlagViewLaws : (0 : FlagBit) ≠ 7 := by decide

theorem witness_PopAfWritesWholeF : ∃ t u v : State,
    exec .popAf (start [] [] .default id) = .next t ∧ (start [] [] .default id).config.fLow = .asWritten ∧
    exec .popAf (start [] [] { down with fLow := .zero } id) = .next u ∧
    (start [] [] { down with fLow := .zero } id).config.fLow = .zero ∧
    exec .popAf (start [] [] { down with fLow := .one } id) = .next v ∧
    (start [] [] { down with fLow := .one } id).config.fLow = .one :=
  ⟨_, _, _, rfl, rfl, rfl, rfl, rfl, rfl⟩

/-- A carry and a borrow out of the first step, of the byte and of the low nibble. -/
theorem witness_AddersHaveClosedForms :
    (0xFF : Byte).toNat + (0x01 : Byte).toNat > 0xFF ∧ (0x00 : Byte).toNat < (0x01 : Byte).toNat ∧
    (0x0F : Byte).toNat % 16 + (0x01 : Byte).toNat % 16 > 15 ∧
    (0x10 : Byte).toNat % 16 < (0x01 : Byte).toNat % 16 := by
  decide

/-- HL = 0x00FF and DE = 0x0001 under the default P4 and P5: H is 1 and Z is 0. -/
theorem witness_AddHlPair_default :
    let s := start [] [] .default (fun s => { s with h := 0x00, l := 0xFF, d := 0x00, e := 0x01 })
    let x := (cat s.h s.l).toNat
    let y := (s.get16 Rp.de.reg).toNat
    (s.config.h16Mask = .m0100 → true = decide (x % 256 + y % 256 > 255)) ∧
    (s.config.h16Mask = .m1000 → true = decide (x % 4096 + y % 4096 > 4095)) ∧
    (s.config.z16Add = .write → false = decide ((x + y) % 65536 = 0)) ∧
    (s.config.z16Add = .keep → false = s.flag flagZ) := by
  decide

/-- The same operands under the other P4 and P5: H is 0, and Z keeps its 1. -/
theorem witness_AddHlPair_other :
    let s := start [] [] { Config.default with h16Mask := .m1000, z16Add := .keep }
      (fun s => { s with h := 0x00, l := 0xFF, d := 0x00, e := 0x01, f := 0x80 })
    let x := (cat s.h s.l).toNat
    let y := (s.get16 Rp.de.reg).toNat
    (s.config.h16Mask = .m0100 → false = decide (x % 256 + y % 256 > 255)) ∧
    (s.config.h16Mask = .m1000 → false = decide (x % 4096 + y % 4096 > 4095)) ∧
    (s.config.z16Add = .write → true = decide ((x + y) % 65536 = 0)) ∧
    (s.config.z16Add = .keep → true = s.flag flagZ) := by
  decide

theorem witness_bit_numbers : 0 < 8 ∧ 7 < 8 := by decide

theorem witness_conditions : condHolds Cc.z.cond 0x80 = true ∧ condHolds Cc.z.cond 0x7F = false ∧
    condHolds Cc.nc.cond 0xEF = true ∧ condHolds Cc.nc.cond 0x10 = false := by
  decide

theorem witness_ReturnFollowsCall : let s := start [] [] down (fun s => { s with sp := 0x0001 })
    ∃ t : State, (s.config.stackDir = .up → (0xFFFF : Word) = s.sp) ∧
      (s.config.stackDir = .down → (0xFFFF : Word) = s.sp - 2) ∧ s.inRange (0xFFFF : Word).toNat = true ∧
      s.inRange (secondAddr s.config 0xFFFF) = true ∧ exec (.callN16 0x2000) s = .next t :=
  ⟨_, nofun, fun _ => rfl, rfl, rfl, rfl⟩

theorem witness_NopDiEiOnlyAdvance :
    (start [0xF3] [] .default id).status = .running ∧ (start [0xF3] [] .default id).peek 0x0100 = 0xF3 ∧
    (start [0xF3] [] .default id).config.implements (.primary 0xF3) = true ∧
    (start [0x00] [] { half with excluded := [.primary 0x00] } id).peek 0x0100 = 0x00 ∧
    (start [0x00] [] { half with excluded := [.primary 0x00] } id).config.implements (.primary 0x00) =
      false := by
  decide

theorem witness_HaltAndStopRaise :
    (start [0x76] [] .default id).status = .running ∧ (start [0x76] [] .default id).peek 0x0100 = 0x76 ∧
    (start [0x10] [] .default id).status = .running ∧ (start [0x10] [] .default id).peek 0x0100 = 0x10 := by
  decide

/-- PUSH BC at SP = 0xFFFF stores to 0xFFFF and 0x0000; 0x0001 is outside. -/
theorem witness_StoresStayInTheirAddresses : let s := start [] [] .default (fun s => { s with sp := 0xFFFF })
    ∃ t : State, exec .pushBc s = .next t ∧ 0x0001 ∉ formStores Instr.pushBc.form s ∧
      0x0000 ∈ formStores Instr.pushBc.form s :=
  ⟨_, rfl, by decide, by decide⟩

theorem witness_RegistersOutsideTheRuleAreKept :
    Reg8.b ∉ formDest8 Instr.popAf.form ∧ formWritesSp (Instr.ldHlSpE8 0x02).form = false ∧
    Instr.popAf ≠ .halt ∧ Instr.popAf ≠ .stop := by
  decide

theorem witness_FlagsOutsideTheRuleAreKept : ∃ t : State, exec .incB State.reset = .next t ∧
    flagC ∉ formFlagBits State.reset.config Instr.incB.form :=
  ⟨_, rfl, by decide⟩

theorem witness_PcAdvancesByLength : (∃ t : State, (Instr.jpNzN16 0x2000).wellFormed = true ∧
      exec (.jpNzN16 0x2000) (State.reset.setF 0x80) = .next t) ∧
    formLeavesLine (Instr.jpNzN16 0x2000).form 0x80 = false ∧ ∃ t : State, exec .halt State.reset = .next t :=
  ⟨⟨_, rfl, rfl⟩, rfl, _, rfl⟩

/-- Bit 3 of F is one the first clause speaks of; DAA, POP AF and PUSH AF are the three cases. -/
theorem witness_LowFlagBitsAreInert : (3 : FlagBit).val < 4 ∧ ∃ t u v : State, exec .daa State.reset = .next t ∧
    exec .popAf State.reset = .next u ∧ exec .pushAf State.reset = .next v :=
  ⟨by decide, _, _, _, rfl, rfl, rfl⟩

theorem witness_LaunchMeetsInvariant : half.valid = true ∧ Memory.wf [(0x7FFF, 0x01)] = true ∧
    ∀ cell ∈ ([(0x7FFF, 0x01)] : Memory), cell.1 < half.memSize := by
  decide

theorem witness_StepKeepsInvariant : State.reset.Inv ∧ ∃ t : State, step State.reset = .next t :=
  ⟨⟨rfl, nofun, rfl, trivial⟩, _, rfl⟩

theorem witness_BackedSpaceHasNoEvents : State.reset.config.allBacked ∧ ∃ t : State, step State.reset = .next t :=
  ⟨⟨rfl, rfl⟩, _, rfl⟩

theorem witness_StoreOverOwnOpcode :
    let s := start [0x36, 0x00] [] .default (fun s => { s with pc := 0xC000, h := 0xC0, l := 0x00 })
    s.status = .running ∧ s.config.allBacked ∧ s.config.implements (.primary 0x36) = true ∧
    s.peek s.pc.toNat = 0x36 ∧ s.peek (s.pc + 1).toNat = 0x00 ∧ cat s.h s.l = s.pc :=
  ⟨rfl, ⟨rfl, rfl⟩, rfl, rfl, rfl, rfl⟩

end Sys2Proof.Tests
end

section
/-! PROOF. Scope: the states a launch makes meet the invariant (00_scope R7; 70_reset_and_hazards R218). -/

namespace Sys2Proof.Machine

/-- A running state records no error, so there is none that could be a false one. -/
theorem statusOk_of_running {s : State} (h : s.status = .running) : s.statusOk := by
  simp only [State.statusOk, h]

/-- P1's domain and the canonical, backed image are what the invariant asks of memory and parameters; a
launch stores both as given and starts Running. -/
theorem launch_inv {c : Config} (x : Init) {m : Memory} (valid : c.valid = true) (wf : Memory.wf m = true)
    (backed : ∀ cell ∈ m, cell.1 < c.memSize) : (State.launch c x m).Inv where
  memWf := wf
  memBacked := backed
  configValid := valid
  status := statusOk_of_running rfl

theorem default_valid : Config.default.valid = true := by decide

/-- Reset is the launch of the default parameters with no memory listed. -/
theorem reset_inv : State.reset.Inv :=
  launch_inv Init.default default_valid wf_nil (List.forall_mem_nil _)

/-- Settles O57: every proper launch meets the invariant field by field, and reset is one of them. -/
theorem launchMeetsInvariant : Obligations.LaunchMeetsInvariant := by
  unfold Obligations.LaunchMeetsInvariant
  exact ⟨reset_inv, fun _ x _ valid wf backed => launch_inv x valid wf backed⟩

end Sys2Proof.Machine
end

section
/-! PROOF. Frames of the shared operations and of every form's effect: which registers, which status and
which parameters an instruction keeps (10_state R18, R19; 60_exceptions R208; 70_reset_and_hazards R221). -/

namespace Sys2Proof.Machine

/-! ### Writing a pair -/

/-- Only a write of SP itself changes SP (10_state R19). -/
theorem set16_sp {p : Reg16} (h : p ≠ .sp) (w : Word) (s : State) : (s.set16 p w).sp = s.sp := by
  cases p with
  | sp => exact absurd rfl h
  | af | bc | de | hl => rfl

/-- Only a write of AF changes F (10_state R17). -/
theorem set16_f {p : Reg16} (h : p ≠ .af) (w : Word) (s : State) : (s.set16 p w).f = s.f := by
  cases p with
  | af => exact absurd rfl h
  | bc | de | hl | sp => rfl

/-- Writing two registers leaves every other (10_state R18). -/
theorem get8_set8_set8 {r p q : Reg8} (hp : r ≠ p) (hq : r ≠ q) (v w : Byte) (s : State) :
    ((s.set8 p v).set8 q w).get8 r = s.get8 r := by
  rw [get8_set8_other hq, get8_set8_other hp]

/-- A write of a pair leaves every register that is not one of its halves (10_state R17). -/
theorem get8_set16 {p : Reg16} {r : Reg8} (h : r ∉ pairHalves p) (w : Word) (s : State) :
    (s.set16 p w).get8 r = s.get8 r := by
  have other : ∀ q ∈ pairHalves p, r ≠ q := fun q half e => h (e ▸ half)
  cases p with
  | sp => exact get8_setSp w r s
  | af => exact (get8_setF _ r _).trans (get8_set8_other (other .a (by decide)) _ s)
  | bc => exact get8_set8_set8 (other .b (by decide)) (other .c (by decide)) (hi w) (lo w) s
  | de => exact get8_set8_set8 (other .d (by decide)) (other .e (by decide)) (hi w) (lo w) s
  | hl => exact get8_set8_set8 (other .h (by decide)) (other .l (by decide)) (hi w) (lo w) s

/-- No field `rp` names AF (30_encoding R60). -/
theorem rp_reg_ne_af (p : Rp) : p.reg ≠ .af := by
  cases p <;> decide

/-- No field `rp2` names SP (30_encoding R61). -/
theorem rp2_reg_ne_sp (p : Rp2) : p.reg ≠ .sp := by
  cases p <;> decide

theorem rp_reg_eq_sp {p : Rp} : p.reg = .sp ↔ p = .sp := by
  cases p <;> decide

theorem rp2_reg_eq_af {p : Rp2} : p.reg = .af ↔ p = .af := by
  cases p <;> decide

/-! ### The shared effects -/

@[simp] theorem loadReg_config (r : Reg8) (w : Word) (s : State) : (loadReg r w s).config = s.config := by
  simp [loadReg]

@[simp] theorem loadReg_status (r : Reg8) (w : Word) (s : State) : (loadReg r w s).status = s.status := by
  simp [loadReg]

@[simp] theorem loadReg_mem (r : Reg8) (w : Word) (s : State) : (loadReg r w s).mem = s.mem := by
  simp [loadReg]

@[simp] theorem loadReg_sp (r : Reg8) (w : Word) (s : State) : (loadReg r w s).sp = s.sp := by
  simp [loadReg]

@[simp] theorem loadReg_f (r : Reg8) (w : Word) (s : State) : (loadReg r w s).f = s.f := by
  simp [loadReg]

theorem get8_loadReg {r r' : Reg8} (h : r' ≠ r) (w : Word) (s : State) :
    (loadReg r w s).get8 r' = s.get8 r' := by
  simp [loadReg, get8_set8_other h]

@[simp] theorem modifyReg_config (r : Reg8) (g : Byte → Byte → Byte × Byte) (s : State) :
    (modifyReg r g s).config = s.config := by
  simp [modifyReg]

@[simp] theorem modifyReg_status (r : Reg8) (g : Byte → Byte → Byte × Byte) (s : State) :
    (modifyReg r g s).status = s.status := by
  simp [modifyReg]

@[simp] theorem modifyReg_mem (r : Reg8) (g : Byte → Byte → Byte × Byte) (s : State) :
    (modifyReg r g s).mem = s.mem := by
  simp [modifyReg]

@[simp] theorem modifyReg_sp (r : Reg8) (g : Byte → Byte → Byte × Byte) (s : State) :
    (modifyReg r g s).sp = s.sp := by
  simp [modifyReg]

@[simp] theorem modifyReg_f (r : Reg8) (g : Byte → Byte → Byte × Byte) (s : State) :
    (modifyReg r g s).f = (g (s.get8 r) s.f).2 := rfl

theorem get8_modifyReg {r r' : Reg8} (h : r' ≠ r) (g : Byte → Byte → Byte × Byte) (s : State) :
    (modifyReg r g s).get8 r' = s.get8 r' := by
  simp [modifyReg, get8_set8_other h]

@[simp] theorem modifyHl_config (g : Byte → Byte → Byte × Byte) (s : State) :
    (modifyHl g s).config = s.config := by
  simp [modifyHl]

@[simp] theorem modifyHl_status (g : Byte → Byte → Byte × Byte) (s : State) :
    (modifyHl g s).status = s.status := by
  simp [modifyHl]

@[simp] theorem modifyHl_sp (g : Byte → Byte → Byte × Byte) (s : State) : (modifyHl g s).sp = s.sp := by
  simp [modifyHl]

@[simp] theorem modifyHl_f (g : Byte → Byte → Byte × Byte) (s : State) :
    (modifyHl g s).f = (g (s.peek (s.get16 .hl).toNat) s.f).2 := rfl

@[simp] theorem get8_modifyHl (r : Reg8) (g : Byte → Byte → Byte × Byte) (s : State) :
    (modifyHl g s).get8 r = s.get8 r := by
  simp [modifyHl]

@[simp] theorem aluNext_config (op : AluOp) (v : Byte) (s : State) : (aluNext op v s).config = s.config := by
  simp [aluNext]

@[simp] theorem aluNext_status (op : AluOp) (v : Byte) (s : State) : (aluNext op v s).status = s.status := by
  simp [aluNext]

@[simp] theorem aluNext_mem (op : AluOp) (v : Byte) (s : State) : (aluNext op v s).mem = s.mem := by
  simp [aluNext]

@[simp] theorem aluNext_sp (op : AluOp) (v : Byte) (s : State) : (aluNext op v s).sp = s.sp := by
  simp [aluNext]

@[simp] theorem aluNext_f (op : AluOp) (v : Byte) (s : State) :
    (aluNext op v s).f = (aluCombine op s.a v s.f).2 := rfl

/-- CP keeps A and the other operations write it alone (42_alu8 R126, R147). -/
theorem get8_aluNext {op : AluOp} {r : Reg8} (h : r ∉ (if op = .cp then [] else [Reg8.a])) (v : Byte)
    (s : State) : (aluNext op v s).get8 r = s.get8 r := by
  by_cases cp : op = .cp
  · cases r <;> simp [aluNext, cp, set8_at_a, State.get8]
  · have other : r ≠ .a := by simpa [cp] using h
    simp [aluNext, get8_set8_other other]

/-! ### Every form -/

/-- A row is not the row of a form it does not have. -/
theorem form_ne {i : Instr} {x : Form} (h : i ≠ x.instr) : i.form ≠ x :=
  fun e => h (by rw [← e, form_instr])

/-- No instruction changes a parameter (70_reset_and_hazards R221). -/
@[simp] theorem formEffect_config (x : Form) (s : State) : (formEffect x s).config = s.config := by
  cases x with
  | callCc cc w | retCc cc => simp only [formEffect]; split <;> simp
  | _ => simp [formEffect]

/-- Only HALT and STOP change the run status (60_exceptions R208). -/
theorem formEffect_status {x : Form} (notHalt : x ≠ .halt) (notStop : x ≠ .stop) (s : State) :
    (formEffect x s).status = s.status := by
  cases x with
  | halt => exact absurd rfl notHalt
  | stop => exact absurd rfl notStop
  | callCc cc w | retCc cc => simp only [formEffect]; split <;> simp
  | _ => simp [formEffect]

/-- SP is as before unless the rule writes it (10_state R19). -/
theorem formEffect_sp {x : Form} (h : formWritesSp x = false) (s : State) : (formEffect x s).sp = s.sp := by
  cases x with
  | ldRpN16 p w | incRp p | decRp p =>
    have other : p.reg ≠ .sp := fun e => of_decide_eq_false h (rp_reg_eq_sp.mp e)
    exact set16_sp other _ s
  | ldAHli | ldAHld | ldHliA | ldHldA | ldHlSpE8 e | addHlRp p =>
    simp [formEffect, set16_sp (p := .hl) (by decide)]
  | push p | pop p | ldSpHl | addSpE8 e | callN16 w | callCc cc w | ret | retCc cc | reti | rst t => cases h
  | _ => simp [formEffect]

/-- An 8-bit register that the rule does not write is as before (10_state R17, R18). -/
theorem get8_formEffect {x : Form} {r : Reg8} (h : r ∉ formDest8 x) (s : State) :
    (formEffect x s).get8 r = s.get8 r := by
  cases x with
  | ldRR dst src | ldRN8 dst n => exact get8_set8_other (List.ne_of_not_mem_cons h) _ s
  | ldRIndHl dst | ldAIndBc | ldAIndDe | ldAIndN16 w | ldhAIndC | ldhAIndN8 n =>
    exact get8_loadReg (List.ne_of_not_mem_cons h) _ s
  | incR dst | decR dst | rotR op dst | resR k dst | setR k dst | daa | cpl | rlca | rrca | rla | rra =>
    exact get8_modifyReg (List.ne_of_not_mem_cons h) _ s
  | ldAHli | ldAHld =>
    have halves : r ∉ pairHalves .hl := List.not_mem_of_not_mem_cons h
    simp only [formEffect]
    rw [get8_loadReg (List.ne_of_not_mem_cons h), get8_set16 halves]
  | ldHliA | ldHldA | ldHlSpE8 e | addHlRp p => simp [formEffect, get8_set16 (p := .hl) h]
  | ldRpN16 p w | incRp p | decRp p => exact get8_set16 h _ s
  | pop p => simp only [formEffect]; rw [get8_set16 h, get8_pop16]
  | aluR op src | aluN8 op n => exact get8_aluNext h _ s
  | aluIndHl op => simp only [formEffect]; rw [get8_aluNext h, get8_noteRead]
  | callCc cc w | retCc cc => simp only [formEffect]; split <;> simp
  | _ => simp [formEffect]

/-- Settles O52: `exec` is the form's effect and PC, and the effect has these frames. -/
theorem registersOutsideTheRuleAreKept : Obligations.RegistersOutsideTheRuleAreKept := by
  unfold Obligations.RegistersOutsideTheRuleAreKept
  intro i s
  refine ⟨_, exec_eq i s, fun r h => ?_, fun h => formEffect_sp h s, fun notHalt notStop => ?_,
    formEffect_config i.form s⟩
  · rw [get8_setPc, get8_formEffect h]
  · exact formEffect_status (form_ne (x := .halt) notHalt) (form_ne (x := .stop) notStop) s

end Sys2Proof.Machine
end

section
/-! PROOF. What a step can do, said once, and the invariant it keeps: memory stays canonical and backed, and
a recorded error is a true one at PC (20_memory R37; 60_exceptions R206, R209). -/

namespace Sys2Proof.Machine

/-! ### The step -/

/-- No step is enabled from Faulted: it answers the recorded error (60_exceptions R209). -/
theorem step_of_faulted {s : State} {kind : ErrorKind} {key : OpcodeKey} {pc0 : Word}
    (h : s.status = .faulted kind key pc0) : step s = .fault (.stopped kind key pc0) := by
  simp only [step, h]

/-- The error names the key at PC truly: mapped and left out by P8, or unmapped (60_exceptions R205). -/
def State.trueError (s : State) : ErrorKind → Prop
  | .unmappedOpcode => s.key.mapped = false
  | .unimplementedInstruction => s.key.mapped = true ∧ s.config.implements s.key = false

/-- Everything a step that answers a next state can do, from a running state and up to the events of its
fetch: it runs an instruction other than HALT and STOP, or it records a true error at PC (30_encoding R90;
60_exceptions R206). -/
theorem step_cases {s t : State} (h : step s = .next t) : s.status = .running ∧ ∃ events : List OobEvent,
    (∃ i : Instr, i.form ≠ .halt ∧ i.form ≠ .stop ∧ exec i (s.setLog events) = .next t) ∨
    (∃ kind : ErrorKind, s.trueError kind ∧
      t = (s.setLog events).setStatus (.faulted kind s.key s.pc)) := by
  cases status : s.status with
  | faulted kind key pc0 =>
    rw [step_of_faulted status] at h
    cases h
  | running =>
    simp only [step, status] at h
    refine ⟨rfl, ?_⟩
    rcases fetch_cases s with ⟨_, i, _, _, notHalt, notStop, found⟩ | ⟨mapped, left, found⟩ |
      ⟨unmapped, _, _, _, found⟩
    · rw [found] at h
      exact ⟨_, .inl ⟨i, form_ne (x := .halt) notHalt, form_ne (x := .stop) notStop, h⟩⟩
    · rw [found] at h
      cases h
      exact ⟨_, .inr ⟨.unimplementedInstruction, ⟨mapped, left⟩, rfl⟩⟩
    · rw [found] at h
      cases h
      exact ⟨_, .inr ⟨.unmappedOpcode, unmapped, rfl⟩⟩

/-- A run of a state that no step is enabled from ends where it began. -/
theorem run_of_faulted {s t : State} {kind : ErrorKind} {key : OpcodeKey} {pc0 : Word}
    (h : s.status = .faulted kind key pc0) (run : Run s t) : t = s := by
  induction run with
  | refl => rfl
  | step _ next stays =>
    rw [stays, step_of_faulted h] at next
    cases next

/-- Settles O8, by induction on the run. -/
theorem faultedIsTerminal : Obligations.FaultedIsTerminal := by
  unfold Obligations.FaultedIsTerminal
  exact fun _ _ _ _ h => ⟨step_of_faulted h, fun _ run => run_of_faulted h run⟩

/-! ### Canonical and backed memory -/

/-- The invariant's part about memory: canonical, and every listed address backed (20_memory R37, R42). -/
def State.MemInv (s : State) : Prop :=
  Memory.wf s.mem = true ∧ ∀ cell ∈ s.mem, cell.1 < s.config.memSize

/-- The memory and the parameters alone decide it. -/
theorem memInv_congr {s t : State} (h : s.MemInv) (mem : t.mem = s.mem) (config : t.config = s.config) :
    t.MemInv := by
  unfold State.MemInv
  rw [mem, config]
  exact h

/-- A byte write stores only in range, and in canonical form (20_memory R37). -/
theorem memInv_writeU8 {s : State} (h : s.MemInv) (n : Nat) (v : Byte) : (writeU8 n v s).MemInv := by
  obtain ⟨wf, backed⟩ := h
  rcases writeU8_cases n v s with ⟨inRange, stored⟩ | ⟨_, logged⟩
  · rw [stored]
    refine ⟨wf_set n v wf, fun cell listed => ?_⟩
    rcases mem_set listed with old | ⟨rfl, _⟩
    · exact backed cell old
    · exact of_decide_eq_true inRange
  · rw [logged]
    exact ⟨wf, backed⟩

theorem memInv_writeU16 {s : State} (h : s.MemInv) (a w : Word) : (writeU16 a w s).MemInv :=
  memInv_writeU8 (memInv_writeU8 h _ _) _ _

theorem memInv_push16 {s : State} (h : s.MemInv) (w : Word) : (push16 w s).MemInv := by
  rw [push16_eq]
  exact memInv_congr (memInv_writeU16 h _ _) rfl rfl

theorem memInv_modifyHl {s : State} (h : s.MemInv) (g : Byte → Byte → Byte × Byte) : (modifyHl g s).MemInv :=
  have read : (s.noteRead (s.get16 .hl).toNat).MemInv := memInv_congr h (by simp) (by simp)
  memInv_congr (memInv_writeU8 read _ _) rfl rfl

/-- The forms that store go through the Memory Service; every other form keeps the memory. -/
theorem memInv_formEffect {s : State} (h : s.MemInv) (x : Form) : (formEffect x s).MemInv := by
  cases x with
  | ldIndHlR r | ldIndHlN8 n | ldIndBcA | ldIndDeA | ldIndN16A w | ldhIndCA | ldhIndN8A n =>
    exact memInv_writeU8 h _ _
  | ldHliA | ldHldA =>
    refine memInv_writeU8 (s := s.set16 .hl _) ?_ _ _
    exact memInv_congr h rfl rfl
  | ldIndN16Sp w => exact memInv_writeU16 h _ _
  | push p | callN16 w | rst t => exact memInv_push16 h _
  | incIndHl | decIndHl | rotIndHl op | resIndHl k | setIndHl k => exact memInv_modifyHl h _
  | callCc cc w =>
    simp only [formEffect]
    split
    · exact memInv_push16 h _
    · exact h
  | retCc cc =>
    simp only [formEffect]
    split
    · exact memInv_congr h (by simp) (by simp)
    · exact h
  | _ => exact memInv_congr h (by simp [formEffect]) (formEffect_config _ s)

/-! ### The invariant -/

/-- Running an instruction other than HALT and STOP keeps the invariant of a running state. -/
theorem exec_keeps_inv {i : Instr} {s t : State} (inv : s.Inv) (running : s.status = .running)
    (notHalt : i.form ≠ .halt) (notStop : i.form ≠ .stop) (h : exec i s = .next t) :
    t.Inv ∧ t.config = s.config := by
  rw [exec_eq] at h
  cases h
  have config : (formEffect i.form s).config = s.config := formEffect_config i.form s
  have ⟨wf, backed⟩ := memInv_formEffect ⟨inv.memWf, inv.memBacked⟩ i.form
  have still : (formEffect i.form s).status = .running :=
    (formEffect_status notHalt notStop s).trans running
  exact ⟨⟨wf, backed, (congrArg Config.valid config).trans inv.configValid, statusOk_of_running still⟩,
    config⟩

/-- Recording a true error at PC keeps the invariant (60_exceptions R206). -/
theorem record_keeps_inv {s : State} {kind : ErrorKind} (inv : s.Inv) (isTrue : s.trueError kind)
    (events : List OobEvent) : ((s.setLog events).setStatus (.faulted kind s.key s.pc)).Inv where
  memWf := inv.memWf
  memBacked := inv.memBacked
  configValid := inv.configValid
  status := by
    cases kind with
    | unmappedOpcode => exact ⟨rfl, isTrue⟩
    | unimplementedInstruction => exact ⟨rfl, isTrue⟩

/-- Settles O58, by the two things a step can do. -/
theorem stepKeepsInvariant : Obligations.StepKeepsInvariant := by
  unfold Obligations.StepKeepsInvariant
  intro s t inv h
  obtain ⟨running, events, ⟨i, notHalt, notStop, ran⟩ | ⟨kind, isTrue, rfl⟩⟩ := step_cases h
  · have fetched : (s.setLog events).Inv :=
      ⟨inv.memWf, inv.memBacked, inv.configValid, statusOk_of_running running⟩
    exact exec_keeps_inv (s := s.setLog events) fetched running notHalt notStop ran
  · exact ⟨record_keeps_inv inv isTrue events, rfl⟩

end Sys2Proof.Machine
end

section
/-! PROOF. The flags byte: the laws of its view, its whole-byte write, the bits an instruction keeps
(10_state R23 to R27), and the pairs' halves (10_state R17). -/

namespace Sys2Proof.Machine

/-! ### The flag view -/

theorem asBool_flagSetBool_same (b : FlagBit) (v : Bool) (f : Byte) : asBool b (flagSetBool b v f) = v := by
  rw [asBool_flagSetBool, if_pos rfl]

theorem asBool_flagSetBool_other {b k : FlagBit} (h : k ≠ b) (v : Bool) (f : Byte) :
    asBool k (flagSetBool b v f) = asBool k f := by
  rw [asBool_flagSetBool, if_neg h]

theorem asBool_flagToggle_other {b k : FlagBit} (h : k ≠ b) (f : Byte) :
    asBool k (flagToggle b f) = asBool k f := by
  rw [asBool_flagToggle, if_neg h]

theorem flagSetBool_true (b : FlagBit) (f : Byte) : flagSetBool b true f = flagSet b f := rfl

theorem flagSetBool_false (b : FlagBit) (f : Byte) : flagSetBool b false f = flagReset b f := rfl

theorem flagToggle_flagToggle (b : FlagBit) (f : Byte) : flagToggle b (flagToggle b f) = f :=
  flags_ext fun k => by
    by_cases same : k = b
    · simp [asBool_flagToggle, same]
    · simp [asBool_flagToggle, same]

/-- Settles O27: `set` and `reset` are `set_bool` at a fixed value, and every operation is known bit by bit. -/
theorem flagViewLaws : Obligations.FlagViewLaws := by
  unfold Obligations.FlagViewLaws
  intro b f
  rw [← flagSetBool_true, ← flagSetBool_false]
  exact ⟨asBool_flagSetBool_same b true f, asBool_flagSetBool_same b false f, flagToggle_flagToggle b f,
    fun k other => ⟨asBool_flagSetBool_other other true f, asBool_flagSetBool_other other false f,
      asBool_flagToggle_other other f, fun v => asBool_flagSetBool_other other v f⟩⟩

/-! ### A whole-byte write of F -/

/-- The mask of the four named flags. -/
theorem getLsbD_highMask (k : FlagBit) : (0xF0 : Byte).getLsbD k.val = decide (4 ≤ k.val) := by
  revert k; decide

/-- The mask of bits 3..0. -/
theorem getLsbD_lowMask (k : FlagBit) : (0x0F : Byte).getLsbD k.val = decide (k.val < 4) := by
  revert k; decide

/-- `WriteF` stores the four named flags as they are, whatever P3 is (10_state R26). -/
theorem asBool_wholeF_named {k : FlagBit} (h : 4 ≤ k.val) (fLow : FLow) (v : Byte) :
    asBool k (wholeF fLow v) = asBool k v := by
  have notLow : ¬ k.val < 4 := Nat.not_lt.mpr h
  cases fLow with
  | asWritten => rfl
  | zero => simp only [asBool, wholeF, BitVec.getLsbD_and, getLsbD_highMask, h, decide_true, Bool.and_true]
  | one => simp only [asBool, wholeF, BitVec.getLsbD_or, getLsbD_lowMask, notLow, decide_false, Bool.or_false]

theorem asBool_wholeF_zero {k : FlagBit} (h : k.val < 4) (v : Byte) : asBool k (wholeF .zero v) = false := by
  have notNamed : ¬ 4 ≤ k.val := Nat.not_le.mpr h
  simp only [asBool, wholeF, BitVec.getLsbD_and, getLsbD_highMask, notNamed, decide_false, Bool.and_false]

theorem asBool_wholeF_one {k : FlagBit} (h : k.val < 4) (v : Byte) : asBool k (wholeF .one v) = true := by
  simp only [asBool, wholeF, BitVec.getLsbD_or, getLsbD_lowMask, h, decide_true, Bool.or_true]

/-- A bit of the low byte of a word, seen as a flag. -/
theorem asBool_lo (k : FlagBit) (w : Word) : asBool k (lo w) = w.getLsbD k.val := getLsbD_lo w k.isLt

theorem form_popAf : Instr.popAf.form = .pop .af := rfl

/-- POP AF writes F through `WriteF` from the low byte popped (10_state R26; 41_load16_stack R121). -/
theorem flag_of_popAf {s t : State} (h : exec .popAf s = .next t) (k : FlagBit) :
    t.flag k = asBool k (wholeF s.config.fLow (lo (pop16 s).1)) := by
  rw [exec_eq] at h
  cases h
  simp [State.flag, form_popAf, formEffect, Rp2.reg, set16_at_af]

/-- Settles O28: a flag of the state after is a bit of `WriteF` of the low byte popped. -/
theorem popAfWritesWholeF : Obligations.PopAfWritesWholeF := by
  unfold Obligations.PopAfWritesWholeF
  intro s t h
  have named : ∀ k : FlagBit, 4 ≤ k.val → t.flag k = (pop16 s).1.getLsbD k.val := fun k high => by
    rw [flag_of_popAf h, asBool_wholeF_named high, asBool_lo]
  refine ⟨named flagZ (by decide), named flagN (by decide), named flagH (by decide), named flagC (by decide),
    fun k low => ⟨fun asWritten => ?_, fun zero => ?_, fun one => ?_⟩⟩
  · rw [flag_of_popAf h, asWritten]
    exact asBool_lo k (pop16 s).1
  · rw [flag_of_popAf h, zero, asBool_wholeF_zero low]
  · rw [flag_of_popAf h, one, asBool_wholeF_one low]

/-! ### The bits a flag rule keeps -/

theorem asBool_writeFlags {k : FlagBit} (h : k ∉ [flagZ, flagN, flagH, flagC]) (z n hc c : Bool) (f : Byte) :
    asBool k (writeFlags z n hc c f) = asBool k f := by
  simp only [List.mem_cons, List.not_mem_nil, or_false, not_or] at h
  simp [writeFlags, asBool_flagSetBool, h]

theorem asBool_writeZNH {k : FlagBit} (h : k ∉ [flagZ, flagN, flagH]) (z n hc : Bool) (f : Byte) :
    asBool k (writeZNH z n hc f) = asBool k f := by
  simp only [List.mem_cons, List.not_mem_nil, or_false, not_or] at h
  simp [writeZNH, asBool_flagSetBool, h]

theorem asBool_daaAdjust {k : FlagBit} (h : k ∉ [flagZ, flagH, flagC]) (v f : Byte) :
    asBool k (daaAdjust v f).2 = asBool k f := by
  simp only [List.mem_cons, List.not_mem_nil, or_false, not_or] at h
  unfold daaAdjust
  cases asBool flagN f <;> simp [asBool_flagSetBool, h]

theorem asBool_cplFlags {k : FlagBit} (h : k ∉ [flagN, flagH]) (f : Byte) :
    asBool k (cplFlags f) = asBool k f := by
  simp only [List.mem_cons, List.not_mem_nil, or_false, not_or] at h
  simp [cplFlags, asBool_flagSetBool, h]

theorem asBool_scfFlags {k : FlagBit} (h : k ∉ [flagN, flagH, flagC]) (f : Byte) :
    asBool k (scfFlags f) = asBool k f := by
  simp only [List.mem_cons, List.not_mem_nil, or_false, not_or] at h
  simp [scfFlags, asBool_flagSetBool, h]

theorem asBool_ccfFlags {k : FlagBit} (h : k ∉ [flagN, flagH, flagC]) (f : Byte) :
    asBool k (ccfFlags f) = asBool k f := by
  simp only [List.mem_cons, List.not_mem_nil, or_false, not_or] at h
  simp [ccfFlags, asBool_flagToggle, asBool_flagSetBool, h]

/-- P5 decides whether ADD HL,rr writes Z (43_alu16 R160). -/
theorem asBool_add16Combine {cfg : Config} {k : FlagBit} {p : Rp}
    (h : k ∉ formFlagBits cfg (.addHlRp p)) (v w : Word) (f : Byte) :
    asBool k (add16Combine cfg v w f).2 = asBool k f := by
  cases rule : cfg.z16Add with
  | write =>
    simp only [formFlagBits, rule, if_true, List.mem_cons, List.not_mem_nil, or_false, not_or] at h
    simp [add16Combine, rule, asBool_flagSetBool, h]
  | keep =>
    simp only [formFlagBits, rule, reduceCtorEq, if_false, List.mem_cons, List.not_mem_nil, or_false,
      not_or] at h
    simp [add16Combine, rule, asBool_flagSetBool, h]

/-- P6 decides whether LD HL,SP+e8 writes the flags (41_load16_stack R119). -/
theorem asBool_speLoadFlags {cfg : Config} {k : FlagBit} {e : Byte}
    (h : k ∉ formFlagBits cfg (.ldHlSpE8 e)) (sp : Word) (f : Byte) :
    asBool k (speLoadFlags cfg sp e f) = asBool k f := by
  cases rule : cfg.speLoadFlags with
  | keep => simp only [speLoadFlags, rule]
  | sm83 =>
    simp only [formFlagBits, rule, if_true] at h
    simp only [speLoadFlags, rule]
    exact asBool_writeFlags h _ _ _ _ f

theorem mem_allFlagBits (k : FlagBit) : k ∈ ([0, 1, 2, 3, 4, 5, 6, 7] : List FlagBit) := by
  revert k; decide

/-- A bit of F that the rule does not write is as before (10_state R23, R27). -/
theorem asBool_formEffect {x : Form} {s : State} {k : FlagBit} (h : k ∉ formFlagBits s.config x) :
    asBool k (formEffect x s).f = asBool k s.f := by
  cases x with
  | aluR op r | aluN8 op n => exact asBool_writeFlags h _ _ _ _ _
  | aluIndHl op =>
    simp only [formEffect, aluNext_f, noteRead_f]
    exact asBool_writeFlags h _ _ _ _ _
  | addSpE8 e | rlca | rrca | rla | rra | rotR op r | rotIndHl op => exact asBool_writeFlags h _ _ _ _ _
  | incR r | decR r | incIndHl | decIndHl | bitR b r | bitIndHl b => exact asBool_writeZNH h _ _ _ _
  | daa => exact asBool_daaAdjust h _ _
  | cpl => exact asBool_cplFlags h _
  | scf => exact asBool_scfFlags h _
  | ccf => exact asBool_ccfFlags h _
  | addHlRp p => exact asBool_add16Combine h _ _ _
  | ldHlSpE8 e => exact asBool_speLoadFlags h _ _
  | pop p =>
    have notAf : p ≠ .af := by
      rintro rfl
      exact h (mem_allFlagBits k)
    simp only [formEffect]
    rw [set16_f (fun e => notAf (rp2_reg_eq_af.mp e)), pop16_f]
  | ldRpN16 p w | incRp p | decRp p => simp only [formEffect]; rw [set16_f (rp_reg_ne_af p)]
  | ldAHli | ldAHld | ldHliA | ldHldA => simp [formEffect, set16_f (p := .hl) (by decide)]
  | callCc cc w | retCc cc => simp only [formEffect]; split <;> simp
  | _ => simp [formEffect, modifyReg, modifyHl, resModify, setModify]

/-- Settles O53: `exec` is the form's effect and PC, and the effect keeps the bits outside the rule. -/
theorem flagsOutsideTheRuleAreKept : Obligations.FlagsOutsideTheRuleAreKept := by
  unfold Obligations.FlagsOutsideTheRuleAreKept
  intro i s t h b outside
  rw [exec_eq] at h
  cases h
  exact asBool_formEffect outside

/-! ### The pairs and their halves -/

/-- Settles O26: a pair is its two halves joined, and a joined word's halves are the bytes it joins. -/
theorem pairsAliasHalves : Obligations.PairsAliasHalves := by
  unfold Obligations.PairsAliasHalves
  intro s w v
  refine ⟨⟨rfl, rfl, rfl, rfl⟩, ⟨rfl, rfl, rfl, rfl⟩, fun p => get16_set16_same (rp_reg_ne_af p) w s, ?_⟩
  simp [set8_at_a, set8_at_b, set8_at_c, set8_at_d, set8_at_e, set8_at_h, set8_at_l]

end Sys2Proof.Machine
end

section
/-! PROOF. Launch: what a state is made from, field by field (70_reset_and_hazards R218, R219). -/

namespace Sys2Proof.Machine

/-- No 8-bit register of the reset state is zero (10_state R34; log entry 1). -/
theorem reset_get8_ne_zero (r : Reg8) : State.reset.get8 r ≠ 0 := by
  cases r <;> decide

/-- Settles O56: a launch stores what it is given, and reset is the launch of the model's defaults. -/
theorem launchTakesInit : Obligations.LaunchTakesInit := by
  unfold Obligations.LaunchTakesInit
  refine ⟨fun c x m => ?_, rfl, rfl, rfl, reset_get8_ne_zero, by decide, by decide⟩
  exact ⟨rfl, rfl, rfl, rfl, rfl, rfl, rfl, rfl, rfl, rfl, rfl, rfl, rfl, rfl⟩

end Sys2Proof.Machine
end

section
/-! PROOF. Bits 3..0 of F are inert: every operation of the model commutes with replacing them, and no flag
rule reads or writes them (10_state R23). -/

namespace Sys2Proof.Machine

/-! ### Replacing bits 3..0 -/

/-- F with bits 3..0 replaced by those of x. -/
def mixLow (x f : Byte) : Byte := (f &&& 0xF0) ||| (x &&& 0x0F)

theorem asBool_mixLow (k : FlagBit) (x f : Byte) :
    asBool k (mixLow x f) = if k.val < 4 then asBool k x else asBool k f := by
  simp only [asBool, mixLow, BitVec.getLsbD_or, BitVec.getLsbD_and, getLsbD_highMask, getLsbD_lowMask]
  by_cases low : k.val < 4
  · simp [low, Nat.not_le.mpr low]
  · simp [low, Nat.not_lt.mp low]

@[simp] theorem asBool_flagZ_mixLow (x f : Byte) : asBool flagZ (mixLow x f) = asBool flagZ f :=
  asBool_mixLow flagZ x f

@[simp] theorem asBool_flagN_mixLow (x f : Byte) : asBool flagN (mixLow x f) = asBool flagN f :=
  asBool_mixLow flagN x f

@[simp] theorem asBool_flagH_mixLow (x f : Byte) : asBool flagH (mixLow x f) = asBool flagH f :=
  asBool_mixLow flagH x f

@[simp] theorem asBool_flagC_mixLow (x f : Byte) : asBool flagC (mixLow x f) = asBool flagC f :=
  asBool_mixLow flagC x f

/-- A write of a named flag and a replacement of bits 3..0 do not meet. -/
theorem flagSetBool_mixLow {b : FlagBit} (h : 4 ≤ b.val) (v : Bool) (x f : Byte) :
    flagSetBool b v (mixLow x f) = mixLow x (flagSetBool b v f) :=
  flags_ext fun k => by
    simp only [asBool_mixLow, asBool_flagSetBool]
    by_cases same : k = b
    · subst same; simp [Nat.not_lt.mpr h]
    · simp [same]

theorem flagToggle_mixLow {b : FlagBit} (h : 4 ≤ b.val) (x f : Byte) :
    flagToggle b (mixLow x f) = mixLow x (flagToggle b f) :=
  flags_ext fun k => by
    simp only [asBool_mixLow, asBool_flagToggle]
    by_cases same : k = b
    · subst same; simp [Nat.not_lt.mpr h]
    · simp [same]

@[simp] theorem flagSetBool_flagZ_mixLow (v : Bool) (x f : Byte) :
    flagSetBool flagZ v (mixLow x f) = mixLow x (flagSetBool flagZ v f) := flagSetBool_mixLow (by decide) v x f

@[simp] theorem flagSetBool_flagN_mixLow (v : Bool) (x f : Byte) :
    flagSetBool flagN v (mixLow x f) = mixLow x (flagSetBool flagN v f) := flagSetBool_mixLow (by decide) v x f

@[simp] theorem flagSetBool_flagH_mixLow (v : Bool) (x f : Byte) :
    flagSetBool flagH v (mixLow x f) = mixLow x (flagSetBool flagH v f) := flagSetBool_mixLow (by decide) v x f

@[simp] theorem flagSetBool_flagC_mixLow (v : Bool) (x f : Byte) :
    flagSetBool flagC v (mixLow x f) = mixLow x (flagSetBool flagC v f) := flagSetBool_mixLow (by decide) v x f

@[simp] theorem flagToggle_flagC_mixLow (x f : Byte) :
    flagToggle flagC (mixLow x f) = mixLow x (flagToggle flagC f) := flagToggle_mixLow (by decide) x f

@[simp] theorem condHolds_mixLow (k : Cond) (x f : Byte) : condHolds k (mixLow x f) = condHolds k f := by
  cases k <;> simp [condHolds]

/-! ### The flag rules -/

@[simp] theorem writeFlags_mixLow (z n h c : Bool) (x f : Byte) :
    writeFlags z n h c (mixLow x f) = mixLow x (writeFlags z n h c f) := by
  simp [writeFlags]

@[simp] theorem writeZNH_mixLow (z n h : Bool) (x f : Byte) :
    writeZNH z n h (mixLow x f) = mixLow x (writeZNH z n h f) := by
  simp [writeZNH]

@[simp] theorem scfFlags_mixLow (x f : Byte) : scfFlags (mixLow x f) = mixLow x (scfFlags f) := by
  simp [scfFlags]

@[simp] theorem ccfFlags_mixLow (x f : Byte) : ccfFlags (mixLow x f) = mixLow x (ccfFlags f) := by
  simp [ccfFlags]

@[simp] theorem bitTestFlags_mixLow (k : Nat) (v x f : Byte) :
    bitTestFlags k v (mixLow x f) = mixLow x (bitTestFlags k v f) := by
  simp [bitTestFlags]

@[simp] theorem spOffsetFlags_mixLow (sp : Word) (n x f : Byte) :
    spOffsetFlags sp n (mixLow x f) = mixLow x (spOffsetFlags sp n f) := by
  simp [spOffsetFlags]

@[simp] theorem speLoadFlags_mixLow (cfg : Config) (sp : Word) (n x f : Byte) :
    speLoadFlags cfg sp n (mixLow x f) = mixLow x (speLoadFlags cfg sp n f) := by
  unfold speLoadFlags
  cases cfg.speLoadFlags <;> simp

@[simp] theorem add16Combine_mixLow_flags (cfg : Config) (v w : Word) (x f : Byte) :
    (add16Combine cfg v w (mixLow x f)).2 = mixLow x (add16Combine cfg v w f).2 := by
  unfold add16Combine
  cases cfg.z16Add <;> simp

/-- A rule for a new byte and a new F neither reads nor writes bits 3..0 of F. -/
def LowInert (g : Byte → Byte → Byte × Byte) : Prop :=
  ∀ v x f : Byte, g v (mixLow x f) = ((g v f).1, mixLow x (g v f).2)

theorem aluCombine_lowInert (op : AluOp) (a : Byte) : LowInert (aluCombine op a) := fun v x f => by
  simp [aluCombine]

theorem incCombine_lowInert : LowInert (fun v f => incCombine v 1 f) := fun v x f => by
  simp [incCombine]

theorem decCombine_lowInert : LowInert (fun v f => decCombine v 1 f) := fun v x f => by
  simp [decCombine]

theorem daaAdjust_lowInert : LowInert daaAdjust := fun v x f => by
  cases n : asBool flagN f <;> simp [daaAdjust, n]

theorem cpl_lowInert : LowInert (fun v f => (~~~v, cplFlags f)) := fun v x f => by
  simp [cplFlags]

theorem rotAModify_lowInert (op : RotOp) : LowInert (rotAModify op) := fun v x f => by
  simp [rotAModify]

theorem rotModify_lowInert (op : RotOp) : LowInert (rotModify op) := fun v x f => by
  simp [rotModify]

theorem resModify_lowInert (k : Nat) : LowInert (resModify k) := fun _ _ _ => rfl

theorem setModify_lowInert (k : Nat) : LowInert (setModify k) := fun _ _ _ => rfl

/-! ### The state's operations -/

/-- `withLowF` writes F through `mixLow`. -/
@[simp] theorem withLowF_f (x : Byte) (s : State) : (s.withLowF x).f = mixLow x s.f := rfl
@[simp] theorem withLowF_a (x : Byte) (s : State) : (s.withLowF x).a = s.a := rfl
@[simp] theorem withLowF_b (x : Byte) (s : State) : (s.withLowF x).b = s.b := rfl
@[simp] theorem withLowF_c (x : Byte) (s : State) : (s.withLowF x).c = s.c := rfl
@[simp] theorem withLowF_d (x : Byte) (s : State) : (s.withLowF x).d = s.d := rfl
@[simp] theorem withLowF_e (x : Byte) (s : State) : (s.withLowF x).e = s.e := rfl
@[simp] theorem withLowF_h (x : Byte) (s : State) : (s.withLowF x).h = s.h := rfl
@[simp] theorem withLowF_l (x : Byte) (s : State) : (s.withLowF x).l = s.l := rfl
@[simp] theorem withLowF_sp (x : Byte) (s : State) : (s.withLowF x).sp = s.sp := rfl
@[simp] theorem withLowF_pc (x : Byte) (s : State) : (s.withLowF x).pc = s.pc := rfl
@[simp] theorem withLowF_config (x : Byte) (s : State) : (s.withLowF x).config = s.config := rfl
@[simp] theorem peek_withLowF (x : Byte) (s : State) (n : Nat) : (s.withLowF x).peek n = s.peek n := rfl

@[simp] theorem get8_withLowF (r : Reg8) (x : Byte) (s : State) : (s.withLowF x).get8 r = s.get8 r :=
  get8_setF _ r s

theorem get16_withLowF {p : Reg16} (h : p ≠ .af) (x : Byte) (s : State) :
    (s.withLowF x).get16 p = s.get16 p := by
  cases p with
  | af => exact absurd rfl h
  | bc | de | hl | sp => rfl

@[simp] theorem setF_withLowF (v x : Byte) (s : State) :
    (s.withLowF x).setF (mixLow x v) = (s.setF v).withLowF x := rfl

@[simp] theorem set8_withLowF (r : Reg8) (v x : Byte) (s : State) :
    (s.withLowF x).set8 r v = (s.set8 r v).withLowF x := by
  cases r <;> rfl

theorem set16_withLowF {p : Reg16} (h : p ≠ .af) (w : Word) (x : Byte) (s : State) :
    (s.withLowF x).set16 p w = (s.set16 p w).withLowF x := by
  cases p with
  | af => exact absurd rfl h
  | bc | de | hl | sp => rfl

/-- A write of AF overwrites bits 3..0 whatever they were. -/
theorem set16_af_withLowF (w : Word) (x : Byte) (s : State) :
    (s.withLowF x).set16 .af w = s.set16 .af w := rfl

@[simp] theorem setSp_withLowF (w : Word) (x : Byte) (s : State) :
    (s.withLowF x).setSp w = (s.setSp w).withLowF x := rfl

@[simp] theorem setPc_withLowF (w : Word) (x : Byte) (s : State) :
    (s.withLowF x).setPc w = (s.setPc w).withLowF x := rfl

@[simp] theorem setStatus_withLowF (v : Status) (x : Byte) (s : State) :
    (s.withLowF x).setStatus v = (s.setStatus v).withLowF x := rfl

@[simp] theorem noteRead_withLowF (n : Nat) (x : Byte) (s : State) :
    (s.withLowF x).noteRead n = (s.noteRead n).withLowF x := by
  unfold State.noteRead
  rw [inRange_of_config (s := s) (t := s.withLowF x) rfl]
  split <;> rfl

@[simp] theorem writeU8_withLowF (n : Nat) (v x : Byte) (s : State) :
    writeU8 n v (s.withLowF x) = (writeU8 n v s).withLowF x := by
  unfold writeU8
  rw [inRange_of_config (s := s) (t := s.withLowF x) rfl]
  split <;> rfl

@[simp] theorem writeU16_withLowF (a w : Word) (x : Byte) (s : State) :
    writeU16 a w (s.withLowF x) = (writeU16 a w s).withLowF x := by
  simp [writeU16]

@[simp] theorem push16_withLowF (w : Word) (x : Byte) (s : State) :
    push16 w (s.withLowF x) = (push16 w s).withLowF x := by
  simp [push16_eq, pushBase, pushSp]

@[simp] theorem pop16_withLowF (x : Byte) (s : State) :
    pop16 (s.withLowF x) = ((pop16 s).1, (pop16 s).2.withLowF x) := by
  simp [pop16_eq, popBase, popSp]

@[simp] theorem loadReg_withLowF (r : Reg8) (w : Word) (x : Byte) (s : State) :
    loadReg r w (s.withLowF x) = (loadReg r w s).withLowF x := by
  simp [loadReg]

@[simp] theorem aluNext_withLowF (op : AluOp) (v x : Byte) (s : State) :
    aluNext op v (s.withLowF x) = (aluNext op v s).withLowF x := by
  simp [aluNext, aluCombine_lowInert op s.a v x s.f]

theorem modifyReg_withLowF {g : Byte → Byte → Byte × Byte} (h : LowInert g) (r : Reg8) (x : Byte) (s : State) :
    modifyReg r g (s.withLowF x) = (modifyReg r g s).withLowF x := by
  simp [modifyReg, h _ x s.f]

theorem modifyHl_withLowF {g : Byte → Byte → Byte × Byte} (h : LowInert g) (x : Byte) (s : State) :
    modifyHl g (s.withLowF x) = (modifyHl g s).withLowF x := by
  simp [modifyHl, h _ x s.f]

/-! ### Every form -/

/-- PC after an instruction does not depend on bits 3..0 of F. -/
theorem formPc_withLowF (y : Form) (x : Byte) (s : State) : formPc y (s.withLowF x) = formPc y s := by
  cases y with
  | jpCc cc w | jrCc cc e | callCc cc w | retCc cc => simp [formPc, relativeTarget]
  | ret | reti => simp [formPc]
  | _ => rfl

/-- Every form but PUSH AF and POP AF has the same effect, with the bits 3..0 it was given. -/
theorem formEffect_withLowF {y : Form} (notPush : y ≠ .push .af) (notPop : y ≠ .pop .af) (x : Byte)
    (s : State) : formEffect y (s.withLowF x) = (formEffect y s).withLowF x := by
  cases y with
  | push p =>
    have notAf : p.reg ≠ .af := fun e => notPush (by rw [rp2_reg_eq_af.mp e])
    simp only [formEffect, push16_withLowF, get16_withLowF notAf]
  | pop p =>
    have notAf : p.reg ≠ .af := fun e => notPop (by rw [rp2_reg_eq_af.mp e])
    simp only [formEffect, pop16_withLowF, set16_withLowF notAf]
  | ldRpN16 p w | incRp p | decRp p =>
    simp only [formEffect, set16_withLowF (rp_reg_ne_af p), get16_withLowF (rp_reg_ne_af p)]
  | addHlRp p =>
    simp [formEffect, set16_withLowF (p := .hl) (by decide), get16_withLowF (rp_reg_ne_af p)]
  | ldAHli | ldAHld | ldHliA | ldHldA | ldHlSpE8 e => simp [formEffect, set16_withLowF (p := .hl) (by decide)]
  | incR r => exact modifyReg_withLowF incCombine_lowInert r x s
  | decR r => exact modifyReg_withLowF decCombine_lowInert r x s
  | incIndHl => exact modifyHl_withLowF incCombine_lowInert x s
  | decIndHl => exact modifyHl_withLowF decCombine_lowInert x s
  | daa => exact modifyReg_withLowF daaAdjust_lowInert .a x s
  | cpl => exact modifyReg_withLowF cpl_lowInert .a x s
  | rlca | rrca | rla | rra => exact modifyReg_withLowF (rotAModify_lowInert _) .a x s
  | rotR op r => exact modifyReg_withLowF (rotModify_lowInert op) r x s
  | rotIndHl op => exact modifyHl_withLowF (rotModify_lowInert op) x s
  | resR k r => exact modifyReg_withLowF (resModify_lowInert k) r x s
  | resIndHl k => exact modifyHl_withLowF (resModify_lowInert k) x s
  | setR k r => exact modifyReg_withLowF (setModify_lowInert k) r x s
  | setIndHl k => exact modifyHl_withLowF (setModify_lowInert k) x s
  | callCc cc w | retCc cc =>
    simp only [formEffect, withLowF_f, condHolds_mixLow]
    split <;> simp
  | _ => simp [formEffect]

/-- Only POP AF's rule writes one of bits 3..0 (10_state R23, R27). -/
theorem lowBit_not_mem_formFlagBits {y : Form} (notPop : y ≠ .pop .af) {k : FlagBit} (low : k.val < 4)
    (cfg : Config) : k ∉ formFlagBits cfg y := by
  have z : k ≠ flagZ := fun e => absurd (e ▸ low) (by decide)
  have n : k ≠ flagN := fun e => absurd (e ▸ low) (by decide)
  have h : k ≠ flagH := fun e => absurd (e ▸ low) (by decide)
  have c : k ≠ flagC := fun e => absurd (e ▸ low) (by decide)
  cases y with
  | pop p =>
    have notAf : p ≠ .af := fun e => notPop (by rw [e])
    simp [formFlagBits, notAf]
  | addHlRp p | ldHlSpE8 e => simp only [formFlagBits]; split <;> simp [z, n, h, c]
  | _ => simp [formFlagBits, z, n, h, c]

/-- Settles O55: POP AF and PUSH AF are read off their effects, and every other form commutes with the
replacement of bits 3..0. -/
theorem lowFlagBitsAreInert : Obligations.LowFlagBitsAreInert := by
  unfold Obligations.LowFlagBitsAreInert
  intro i s t x h
  rw [exec_eq] at h
  cases h
  refine ⟨fun notPop k low => ?_, fun notPush notPop => ?_, ?_, ?_⟩
  · have outside := lowBit_not_mem_formFlagBits (form_ne (x := .pop .af) notPop) low s.config
    exact asBool_formEffect outside
  · rw [exec_eq, formEffect_withLowF (form_ne (x := .push .af) notPush) (form_ne (x := .pop .af) notPop),
      formPc_withLowF, setPc_withLowF]
  · rintro rfl
    rw [exec_eq, formPc_withLowF]
    simp only [form_popAf, formEffect, Rp2.reg, pop16_withLowF, set16_af_withLowF]
  · rintro rfl
    rw [exec_eq, formPc_withLowF]
    rfl

end Sys2Proof.Machine
end

section
/-! PROOF. The Memory Service: byte and word accesses in and out of range (20_memory R36 to R41), and that a
canonical memory is known by what it reads as (20_memory R37; log entry 2). -/

namespace Sys2Proof.Machine

/-! ### Byte accesses -/

theorem inRange_of_lt {s : State} {n : Nat} (h : n < s.config.memSize) : s.inRange n = true :=
  decide_eq_true h

theorem inRange_of_ge {s : State} {n : Nat} (h : n ≥ s.config.memSize) : s.inRange n = false :=
  decide_eq_false (Nat.not_lt.mpr h)

theorem peek_inRange {s : State} {n : Nat} (h : s.inRange n = true) : s.peek n = Memory.get s.mem n :=
  if_pos h

theorem peek_outOfRange {s : State} {n : Nat} (h : s.inRange n = false) : s.peek n = 0 :=
  if_neg (by simp [h])

theorem writeU8_outOfRange {s : State} {n : Nat} (h : s.inRange n = false) (v : Byte) :
    writeU8 n v s = s.noteEvent (.write n v) :=
  if_neg (by simp [h])

/-- An in-range write makes no event (20_memory R37). -/
theorem writeU8_log {s : State} {n : Nat} (h : s.inRange n = true) (v : Byte) :
    (writeU8 n v s).log = s.log := by
  rw [writeU8, if_pos h]

/-- Settles O22: a byte access is known from whether its address is in range. -/
theorem byteAccessesAreBounded : Obligations.ByteAccessesAreBounded := by
  unfold Obligations.ByteAccessesAreBounded
  intro s n v
  refine ⟨fun h => ?_, fun h => ?_⟩
  · have backed := inRange_of_lt h
    refine ⟨?_, writeU8_log backed v, peek_writeU8_same v backed, fun k ne => peek_writeU8_other ne v s⟩
    rw [readU8_eq, peek_inRange backed, noteRead_inRange backed]
  · have unbacked := inRange_of_ge h
    refine ⟨?_, writeU8_outOfRange unbacked v⟩
    rw [readU8_eq, peek_outOfRange unbacked, noteRead_outOfRange unbacked]
    rfl

/-! ### Word accesses -/

theorem secondAddr_wrap {cfg : Config} (h : cfg.u16Wrap = .wrap) (a : Word) :
    secondAddr cfg a = (a + 1).toNat := by
  rw [secondAddr, h]

theorem secondAddr_linear {cfg : Config} (h : cfg.u16Wrap = .linear) (a : Word) :
    secondAddr cfg a = a.toNat + 1 := by
  rw [secondAddr, h]

/-- P7's two values say where the second byte of a word is (20_memory R39). -/
theorem secondAddr_unique {cfg : Config} {a : Word} {a2 : Nat}
    (wrap : cfg.u16Wrap = .wrap → a2 = (a.toNat + 1) % 65536)
    (linear : cfg.u16Wrap = .linear → a2 = a.toNat + 1) : secondAddr cfg a = a2 := by
  cases rule : cfg.u16Wrap with
  | wrap => rw [secondAddr_wrap rule, wrap rule]; exact BitVec.toNat_add a 1
  | linear => rw [secondAddr_linear rule, linear rule]

/-- Settles O23: P7 fixes the second address, and the word operations are their two byte operations. -/
theorem wordAccessesAreLittleEndian : Obligations.WordAccessesAreLittleEndian := by
  unfold Obligations.WordAccessesAreLittleEndian
  intro s a w a2 wrap linear
  obtain rfl := secondAddr_unique wrap linear
  refine ⟨readU16_eq a s, rfl, fun k => ?_⟩
  simp only [peek_writeU16, State.inRange, decide_eq_true_eq]

/-- A byte of a word that is out of range reads 0 (20_memory R41). -/
theorem lo_readU16_outOfRange {s : State} {a : Word} (h : s.inRange a.toNat = false) :
    lo (readU16 a s).1 = 0 := by
  rw [readU16_fst, lo_cat, peek_outOfRange h]

theorem hi_readU16_outOfRange {s : State} {a : Word} (h : s.inRange (secondAddr s.config a) = false) :
    hi (readU16 a s).1 = 0 := by
  rw [readU16_fst, hi_cat, peek_outOfRange h]

/-- Settles O24: a word write keeps the parameters, so it keeps which addresses are in range. -/
theorem wordRoundTrips : Obligations.WordRoundTrips := by
  unfold Obligations.WordRoundTrips
  intro s a w
  have config : (writeU16 a w s).config = s.config := writeU16_config a w s
  refine ⟨fun low high => ?_, fun low => ?_, fun high => ?_⟩
  · rw [readU16_of_writeU16 low high rfl config]
  · exact lo_readU16_outOfRange ((inRange_of_config config _).trans low)
  · refine hi_readU16_outOfRange ?_
    rw [config, inRange_of_config config]
    exact high

/-! ### Canonical memories -/

/-- An address below the first one listed is unlisted. -/
theorem get_of_lt_risesFrom {low k : Nat} {m : Memory} (rises : Memory.risesFrom low m = true)
    (lt : k < low) : Memory.get m k = Config.unlistedByte := by
  induction m generalizing low with
  | nil => rfl
  | cons cell m ih =>
    obtain ⟨j, v⟩ := cell
    simp only [Memory.risesFrom, Bool.and_eq_true, decide_eq_true_eq] at rises
    obtain ⟨le, rises⟩ := rises
    have ne : j ≠ k := by omega
    rw [Memory.get, if_neg ne, ih rises (by omega)]

/-- An address that reads as a listed byte is not below the first one listed. -/
theorem le_of_get_ne {low k : Nat} {m : Memory} (rises : Memory.risesFrom low m = true)
    (listed : Memory.get m k ≠ Config.unlistedByte) : low ≤ k :=
  Nat.not_lt.mp fun lt => listed (get_of_lt_risesFrom rises lt)

@[simp] theorem get_cons_same (k : Nat) (v : Byte) (m : Memory) : Memory.get ((k, v) :: m) k = v := if_pos rfl

theorem get_cons_other {k a : Nat} (ne : k ≠ a) (v : Byte) (m : Memory) :
    Memory.get ((k, v) :: m) a = Memory.get m a := if_neg ne

theorem risesFrom_cons {low k : Nat} {v : Byte} {m : Memory} :
    Memory.risesFrom low ((k, v) :: m) = true ↔ low ≤ k ∧ Memory.risesFrom (k + 1) m = true := by
  simp [Memory.risesFrom]

/-- Rising memories without an unlisted byte agree cell by cell when they read alike: the first cells are at
the same address, each being the lowest listed one, and the rest read alike again. -/
theorem eq_of_get_eq {low : Nat} {m n : Memory} (risesM : Memory.risesFrom low m = true)
    (risesN : Memory.risesFrom low n = true) (listedM : ∀ cell ∈ m, cell.2 ≠ Config.unlistedByte)
    (listedN : ∀ cell ∈ n, cell.2 ≠ Config.unlistedByte)
    (alike : ∀ k : Nat, Memory.get m k = Memory.get n k) : m = n := by
  induction m generalizing low n with
  | nil =>
    cases n with
    | nil => rfl
    | cons cell n =>
      obtain ⟨j, w⟩ := cell
      have unlisted : Config.unlistedByte = w := by simpa [Memory.get] using alike j
      exact absurd unlisted.symm (listedN _ List.mem_cons_self)
  | cons cell m ih =>
    obtain ⟨k, v⟩ := cell
    have vListed : v ≠ Config.unlistedByte := listedM _ List.mem_cons_self
    cases n with
    | nil => exact absurd (by simpa [Memory.get] using alike k) vListed
    | cons cell n =>
      obtain ⟨j, w⟩ := cell
      have wListed : w ≠ Config.unlistedByte := listedN _ List.mem_cons_self
      have tailM := (risesFrom_cons.mp risesM).2
      have tailN := (risesFrom_cons.mp risesN).2
      have jk : j ≤ k := le_of_get_ne (risesFrom_cons.mpr ⟨le_rfl, tailN⟩) (by rwa [← alike, get_cons_same])
      have kj : k ≤ j := le_of_get_ne (risesFrom_cons.mpr ⟨le_rfl, tailM⟩) (by rwa [alike, get_cons_same])
      obtain rfl : k = j := Nat.le_antisymm kj jk
      obtain rfl : v = w := by simpa using alike k
      have alikeTail : ∀ a : Nat, Memory.get m a = Memory.get n a := fun a => by
        by_cases same : k = a
        · rw [← same, get_of_lt_risesFrom tailM (Nat.lt_succ_self k),
            get_of_lt_risesFrom tailN (Nat.lt_succ_self k)]
        · simpa only [get_cons_other same] using alike a
      rw [ih tailM tailN (fun c h => listedM c (List.mem_cons_of_mem _ h))
        (fun c h => listedN c (List.mem_cons_of_mem _ h)) alikeTail]

/-- Settles O25: the canonical form is rising addresses and no unlisted byte, which fix the list. -/
theorem canonicalMemoriesAreEqual : Obligations.CanonicalMemoriesAreEqual := by
  unfold Obligations.CanonicalMemoriesAreEqual
  intro m n wfM wfN alike
  obtain ⟨risesM, listedM⟩ := (wf_iff m).mp wfM
  obtain ⟨risesN, listedN⟩ := (wf_iff n).mp wfN
  exact eq_of_get_eq risesM risesN listedM listedN alike

end Sys2Proof.Machine
end

section
/-! PROOF. The memory frame of every form: a byte outside the addresses the rule stores to is as before
(20_memory R43; 41_load16_stack R114). -/

namespace Sys2Proof.Machine

/-- A word write changes no byte outside its two addresses (20_memory R40). -/
theorem peek_writeU16_other {s : State} {a : Word} {k : Nat} (h : k ∉ wordAddrs s a) (w : Word) :
    (writeU16 a w s).peek k = s.peek k := by
  have notLow := List.ne_of_not_mem_cons h
  have notHigh := List.ne_of_not_mem_cons (List.not_mem_of_not_mem_cons h)
  rw [peek_writeU16, if_neg (fun e => notHigh e.1), if_neg (fun e => notLow e.1)]

/-- A read-modify-write of the byte at HL changes no other byte. -/
theorem peek_modifyHl {s : State} {k : Nat} (h : k ≠ (s.get16 .hl).toNat) (g : Byte → Byte → Byte × Byte) :
    (modifyHl g s).peek k = s.peek k := by
  rw [modifyHl, peek_setF, peek_writeU8_other h, peek_noteRead]

/-- The forms that store write their own addresses alone; every other form keeps memory and parameters. -/
theorem peek_formEffect {x : Form} {s : State} {k : Nat} (h : k ∉ formStores x s) :
    (formEffect x s).peek k = s.peek k := by
  cases x with
  | ldIndHlR r | ldIndHlN8 n | ldIndBcA | ldIndDeA | ldIndN16A w | ldhIndCA | ldhIndN8A n =>
    exact peek_writeU8_other (List.ne_of_not_mem_cons h) _ s
  | ldHliA | ldHldA =>
    simp only [formEffect]
    rw [peek_writeU8_other (List.ne_of_not_mem_cons h), peek_set16]
  | incIndHl | decIndHl | rotIndHl op | resIndHl b | setIndHl b =>
    exact peek_modifyHl (List.ne_of_not_mem_cons h) _
  | ldIndN16Sp w => exact peek_writeU16_other h s.sp
  | push p | callN16 w | rst t => exact peek_push16 h _
  | callCc cc w =>
    by_cases taken : condHolds cc.cond s.f = true
    · simp only [formStores, taken, if_true] at h
      simp only [formEffect, taken, if_true]
      exact peek_push16 h _
    · simp only [formEffect, if_neg taken]
  | retCc cc =>
    simp only [formEffect]
    split
    · exact peek_pop16 s k
    · rfl
  | _ => exact peek_congr (formEffect_config _ s) (by simp [formEffect]) k

/-- Settles O51: `exec` is the form's effect and PC, and the effect has this frame. -/
theorem storesStayInTheirAddresses : Obligations.StoresStayInTheirAddresses := by
  unfold Obligations.StoresStayInTheirAddresses
  intro i s t h k outside
  rw [exec_eq] at h
  cases h
  exact peek_formEffect outside

end Sys2Proof.Machine
end

section
/-! PROOF. With the whole space backed and words that wrap, no access makes an event (20_memory R36;
60_exceptions R210), and a store over its own opcode is seen by the next fetch (20_memory R53). -/

namespace Sys2Proof.Machine

/-! ### Accesses to a backed space -/

section Backed

variable {s : State} (backed : s.config.allBacked)
include backed

/-- Every 16-bit address is in range. -/
theorem inRange_of_allBacked (a : Word) : s.inRange a.toNat = true := by
  obtain ⟨size, -⟩ := backed
  exact inRange_of_lt (size ▸ a.isLt)

/-- The second byte of a word wraps, so it is in range too (20_memory R39). -/
theorem inRange_secondAddr_of_allBacked (a : Word) : s.inRange (secondAddr s.config a) = true := by
  rw [secondAddr_wrap backed.2]
  exact inRange_of_allBacked backed (a + 1)

theorem noteRead_of_allBacked (a : Word) : s.noteRead a.toNat = s :=
  noteRead_inRange (inRange_of_allBacked backed a)

theorem noteRead_secondAddr_of_allBacked (a : Word) : s.noteRead (secondAddr s.config a) = s :=
  noteRead_inRange (inRange_secondAddr_of_allBacked backed a)

theorem writeU8_log_of_allBacked (a : Word) (v : Byte) : (writeU8 a.toNat v s).log = s.log :=
  writeU8_log (inRange_of_allBacked backed a) v

theorem writeU16_log_of_allBacked (a w : Word) : (writeU16 a w s).log = s.log := by
  have config : (writeU8 a.toNat (lo w) s).config = s.config := by simp
  have high := (inRange_of_config config _).trans (inRange_secondAddr_of_allBacked backed a)
  rw [writeU16, writeU8_log high, writeU8_log_of_allBacked backed]

theorem push16_log_of_allBacked (w : Word) : (push16 w s).log = s.log := by
  rw [push16_eq, setSp_log, writeU16_log_of_allBacked backed]

theorem pop16_log_of_allBacked : (pop16 s).2.log = s.log := by
  rw [pop16_eq, noteRead_of_allBacked backed, noteRead_secondAddr_of_allBacked backed, setSp_log]

theorem loadReg_log_of_allBacked (r : Reg8) (w : Word) : (loadReg r w s).log = s.log := by
  rw [loadReg, noteRead_of_allBacked backed, set8_log]

theorem modifyHl_log_of_allBacked (g : Byte → Byte → Byte × Byte) : (modifyHl g s).log = s.log := by
  rw [modifyHl, noteRead_of_allBacked backed, setF_log, writeU8_log_of_allBacked backed]

end Backed

/-! ### Every form -/

@[simp] theorem modifyReg_log (r : Reg8) (g : Byte → Byte → Byte × Byte) (s : State) :
    (modifyReg r g s).log = s.log := by
  simp [modifyReg]

@[simp] theorem aluNext_log (op : AluOp) (v : Byte) (s : State) : (aluNext op v s).log = s.log := by
  simp [aluNext]

/-- A form makes events only by its accesses to memory, and each of those is in range. -/
theorem formEffect_log_of_allBacked {s : State} (backed : s.config.allBacked) (x : Form) :
    (formEffect x s).log = s.log := by
  have pairWritten (p : Reg16) (w : Word) : (s.set16 p w).config.allBacked := by rwa [set16_config]
  cases x with
  | ldRIndHl r | ldAIndBc | ldAIndDe | ldAIndN16 w | ldhAIndC | ldhAIndN8 n =>
    exact loadReg_log_of_allBacked backed _ _
  | ldIndHlR r | ldIndHlN8 n | ldIndBcA | ldIndDeA | ldIndN16A w | ldhIndCA | ldhIndN8A n =>
    exact writeU8_log_of_allBacked backed _ _
  | ldAHli | ldAHld =>
    simp only [formEffect]
    rw [loadReg_log_of_allBacked (pairWritten _ _), set16_log]
  | ldHliA | ldHldA =>
    simp only [formEffect]
    rw [writeU8_log_of_allBacked (pairWritten _ _), set16_log]
  | ldIndN16Sp w => exact writeU16_log_of_allBacked backed w s.sp
  | push p | callN16 w | rst t => exact push16_log_of_allBacked backed _
  | pop p =>
    simp only [formEffect]
    rw [set16_log, pop16_log_of_allBacked backed]
  | ret | reti => exact pop16_log_of_allBacked backed
  | callCc cc w =>
    simp only [formEffect]
    split
    · exact push16_log_of_allBacked backed _
    · rfl
  | retCc cc =>
    simp only [formEffect]
    split
    · exact pop16_log_of_allBacked backed
    · rfl
  | incIndHl | decIndHl | rotIndHl op | resIndHl b | setIndHl b => exact modifyHl_log_of_allBacked backed _
  | aluIndHl op | bitIndHl b => simp [formEffect, noteRead_of_allBacked backed]
  | _ => simp [formEffect]

theorem exec_log_of_allBacked {i : Instr} {s t : State} (backed : s.config.allBacked)
    (h : exec i s = .next t) : t.log = s.log := by
  rw [exec_eq] at h
  cases h
  exact formEffect_log_of_allBacked backed i.form

/-! ### The step -/

/-- A fetch changes nothing but the event list, which it leaves as the events of the bytes it read. -/
theorem fetch_snd (s : State) : ∃ n : Nat, (fetch (s.setLog [])).2 = s.setLog (s.fetchEvents n) := by
  rcases fetch_cases s with ⟨_, i, _, _, _, _, found⟩ | ⟨_, _, found⟩ | ⟨_, _, _, _, found⟩ <;>
    exact ⟨_, congrArg Prod.snd found⟩

/-- The bytes of an instruction are in range. -/
theorem fetchEvents_of_allBacked {s : State} (backed : s.config.allBacked) (n : Nat) :
    s.fetchEvents n = [] := by
  have inRange : ∀ a ∈ s.fetchAddrs.take n, s.inRange a = true := fun a h => by
    have h := List.mem_of_mem_take h
    simp only [State.fetchAddrs, List.mem_cons, List.not_mem_nil, or_false] at h
    rcases h with rfl | rfl | rfl
    · exact inRange_of_allBacked backed s.pc
    · exact inRange_of_allBacked backed (s.pc + 1)
    · exact inRange_secondAddr_of_allBacked backed (s.pc + 1)
  rw [State.fetchEvents, List.filter_eq_nil_iff.mpr fun a h => by simp [inRange a h], List.map_nil]

/-- Running what dispatch found makes no event: an instruction by its form, an error because it sets the
status alone (60_exceptions R206). -/
theorem runFetched_log_of_allBacked {r : Fetched × State} {t : State} (backed : r.2.config.allBacked)
    (h : runFetched r = .next t) : t.log = r.2.log := by
  obtain ⟨found, s⟩ := r
  cases found with
  | instr i => exact exec_log_of_allBacked backed h
  | error kind key => cases h; rfl

/-- Settles O59: neither the fetch nor what it found makes an event. -/
theorem backedSpaceHasNoEvents : Obligations.BackedSpaceHasNoEvents := by
  unfold Obligations.BackedSpaceHasNoEvents
  intro s t backed h
  have running := (step_cases h).1
  obtain ⟨n, fetched⟩ := fetch_snd s
  simp only [step, running] at h
  have kept := runFetched_log_of_allBacked (by rwa [fetched]) h
  rw [kept, fetched, setLog_log, fetchEvents_of_allBacked backed]

/-- A running state whose key is implemented runs the instruction its bytes decode to, with the events of
fetching it (30_encoding R90). -/
theorem step_of_decode {s : State} {i : Instr} {rest : List Byte} (running : s.status = .running)
    (implemented : s.config.implements s.key = true) (decoded : decode s.window = .ok (i, rest)) :
    step s = exec i (s.setLog (s.fetchEvents (encode i).length)) := by
  simp only [step, running]
  rcases fetch_cases s with ⟨_, j, _, decoded', _, _, found⟩ | ⟨_, left, _⟩ | ⟨_, _, _, left, _⟩
  · rw [decoded] at decoded'
    cases decoded'
    rw [found]
    rfl
  · simp [left] at implemented
  · simp [left] at implemented

/-! ### A store over its own opcode -/

theorem window_head? (s : State) : s.window.head? = some (s.peek s.pc.toNat) := rfl

theorem decode_ldIndHlN8 (n : Byte) (rest : List Byte) :
    decode (0x36 :: n :: rest) = .ok (.ldIndHlN8 n, rest) := rfl

/-- Settles O60: the instruction fetched is LD (HL),n8, and its one store is at the old PC. -/
theorem storeOverOwnOpcode : Obligations.StoreOverOwnOpcode := by
  unfold Obligations.StoreOverOwnOpcode
  intro s n running backed implemented opcode immediate hl
  have key : s.key = .primary 0x36 := by rw [State.key, opcode]; rfl
  have decoded : decode s.window = .ok (.ldIndHlN8 n, [s.peek (secondAddr s.config (s.pc + 1))]) := by
    rw [← decode_ldIndHlN8, ← opcode, ← immediate]
    rfl
  have ran := step_of_decode running (by rwa [key]) decoded
  rw [fetchEvents_of_allBacked backed, exec_eq] at ran
  have effect : formEffect (Instr.ldIndHlN8 n).form (s.setLog []) = writeU8 s.pc.toNat n (s.setLog []) := by
    rw [← hl]
    rfl
  rw [effect] at ran
  refine ⟨_, ran, rfl, ?_, fun k ne => ?_⟩
  · rw [window_head?]
    exact congrArg some (peek_writeU8_same (s := s.setLog []) n (inRange_of_allBacked backed s.pc))
  · exact peek_writeU8_other ne n (s.setLog [])

end Sys2Proof.Machine
end

section
/-! PROOF. The codec: decoding inverts encoding, whatever decodes is the encoding of what it decodes to (STOP's
second byte aside), and the length follows from the first byte (30_encoding R56 to R74). -/

namespace Sys2Proof.Laws.RoundTrip

/-- The per-instruction family together: the rows with an immediate word or a bit number go by their own
lemmas, and the bytes of every other row decode by evaluation, whatever byte they carry. -/
theorem roundTrip (i : Instr) : Statement i := by
  cases i with
  | ldBcN16 w => exact ldBcN16 w
  | ldDeN16 w => exact ldDeN16 w
  | ldHlN16 w => exact ldHlN16 w
  | ldSpN16 w => exact ldSpN16 w
  | ldIndN16Sp w => exact ldIndN16Sp w
  | ldIndN16A w => exact ldIndN16A w
  | ldAIndN16 w => exact ldAIndN16 w
  | jpN16 w => exact jpN16 w
  | jpNzN16 w => exact jpNzN16 w
  | jpZN16 w => exact jpZN16 w
  | jpNcN16 w => exact jpNcN16 w
  | jpCN16 w => exact jpCN16 w
  | callN16 w => exact callN16 w
  | callNzN16 w => exact callNzN16 w
  | callZN16 w => exact callZN16 w
  | callNcN16 w => exact callNcN16 w
  | callCN16 w => exact callCN16 w
  | bitB b => exact bitB b
  | bitC b => exact bitC b
  | bitD b => exact bitD b
  | bitE b => exact bitE b
  | bitH b => exact bitH b
  | bitL b => exact bitL b
  | bitIndHl b => exact bitIndHl b
  | bitA b => exact bitA b
  | resB b => exact resB b
  | resC b => exact resC b
  | resD b => exact resD b
  | resE b => exact resE b
  | resH b => exact resH b
  | resL b => exact resL b
  | resIndHl b => exact resIndHl b
  | resA b => exact resA b
  | setB b => exact setB b
  | setC b => exact setC b
  | setD b => exact setD b
  | setE b => exact setE b
  | setH b => exact setH b
  | setL b => exact setL b
  | setIndHl b => exact setIndHl b
  | setA b => exact setA b
  | _ => exact fun _ _ => rfl

end Sys2Proof.Laws.RoundTrip

namespace Sys2Proof

/-- Settles O1: the per-instruction family covers every row. -/
theorem decodeInvertsEncode : Obligations.DecodeInvertsEncode := by
  unfold Obligations.DecodeInvertsEncode
  exact fun i rest wellFormed => Laws.RoundTrip.roundTrip i wellFormed rest

/-! ### What decodes -/

/-- An instruction is well formed and its bytes are the given ones. -/
def EncodesAs (i : Instr) (bytes : List Byte) : Prop := i.wellFormed = true ∧ encode i = bytes

/-- The instructions of an entry are well formed, and their encodings are the first byte and the operand's
bytes; STOP's second byte is no operand (46_misc R202). -/
def Entry.EncodesBack (op : Byte) : Entry → Prop
  | .unmapped => True
  | .escape => op = escapeByte
  | .f1 f => EncodesAs f.instr [op]
  | .f2 mk => ∀ n : Byte, EncodesAs (mk n).instr [op, n]
  | .f3 mk => ∀ w : Word, EncodesAs (mk w).instr (encodeWord op w)
  | .fstop f => f.instr = .stop ∧ op = 0x10

/-- The decoder's field tables and the encoder's bytes agree on every first byte (30_encoding R71): each
evaluates to the other, and the four closers are the shapes of an entry's statement. -/
theorem primaryEntry_encodesBack (op : Byte) : (primaryEntry op).EncodesBack op := by
  revert op
  refine forall_byte fun n hn => ?_
  interval_cases n <;> first | exact trivial | rfl | exact ⟨rfl, rfl⟩ | exact fun _ => ⟨rfl, rfl⟩

/-- The same on every byte after the escape byte (30_encoding R73). -/
theorem escapedForm_encodesBack (op2 : Byte) : EncodesAs (escapedForm op2).instr [escapeByte, op2] := by
  unfold EncodesAs
  revert op2
  decide

/-- Whatever decodes is a well-formed instruction, and the bytes are its encoding and the rest, or it is STOP
and they begin with STOP's opcode. -/
theorem decode_eq_ok {bytes rest : List Byte} {i : Instr} (h : decode bytes = .ok (i, rest)) :
    i.wellFormed = true ∧ (encode i ++ rest = bytes ∨ i = .stop ∧ bytes.head? = some 0x10) := by
  cases bytes with
  | nil => cases h
  | cons op tail =>
    have back := primaryEntry_encodesBack op
    rw [decode] at h
    cases entry : primaryEntry op with
    | unmapped =>
      rw [entry] at h
      cases h
    | escape =>
      rw [entry] at h back
      cases tail with
      | nil => cases h
      | cons op2 tail =>
        cases h
        obtain ⟨wellFormed, bytes⟩ := escapedForm_encodesBack op2
        exact ⟨wellFormed, .inl (by rw [bytes, show op = escapeByte from back]; rfl)⟩
    | f1 f =>
      rw [entry] at h back
      cases h
      obtain ⟨wellFormed, bytes⟩ := back
      exact ⟨wellFormed, .inl (by rw [bytes]; rfl)⟩
    | f2 mk =>
      rw [entry] at h back
      cases tail with
      | nil => cases h
      | cons n tail =>
        cases h
        obtain ⟨wellFormed, bytes⟩ := back n
        exact ⟨wellFormed, .inl (by rw [bytes]; rfl)⟩
    | f3 mk =>
      rw [entry] at h back
      match tail, h with
      | low :: high :: tail, rfl =>
        obtain ⟨wellFormed, bytes⟩ := back (cat high low)
        exact ⟨wellFormed, .inl (by rw [bytes, encodeWord, lo_cat, hi_cat]; rfl)⟩
    | fstop f =>
      rw [entry] at h back
      cases h
      obtain ⟨isStop, opcode⟩ := back
      exact ⟨by rw [isStop]; rfl, .inr ⟨isStop, congrArg some opcode⟩⟩

/-- Settles O2: only STOP's bytes are not its encoding, and STOP's encoding begins with its opcode too. -/
theorem encodeInvertsDecode : Obligations.EncodeInvertsDecode := by
  unfold Obligations.EncodeInvertsDecode
  intro bytes i rest h
  obtain ⟨wellFormed, encoded | ⟨stop, opcode⟩⟩ := decode_eq_ok h
  · exact ⟨wellFormed, fun _ => encoded, fun stop => by rw [← encoded, stop]; rfl⟩
  · exact ⟨wellFormed, fun notStop => absurd stop notStop, fun _ => opcode⟩

/-- Settles O3, by evaluation of the decoder. -/
theorem writtenWordsDecode : Obligations.WrittenWordsDecode := by
  unfold Obligations.WrittenWordsDecode
  exact ⟨rfl, rfl, rfl, rfl, rfl, rfl, rfl, rfl, rfl, rfl, rfl, rfl, rfl, rfl, rfl⟩

/-! ### Lengths -/

/-- The first bytes without a length are the eleven unmapped ones (30_encoding R58, R74). -/
theorem lengthOf_eq_none (op : Byte) : lengthOf op = none ↔ op ∈
    ([0xD3, 0xDB, 0xDD, 0xE3, 0xE4, 0xEB, 0xEC, 0xED, 0xF4, 0xFC, 0xFD] : List Byte) := by
  revert op
  decide

/-- The length a first byte gives is the encoding's. -/
theorem lengthOf_head_encode (i : Instr) : (encode i).head?.bind lengthOf = some (encode i).length := by
  cases i <;> rfl

/-- A first byte gives no length or one of 1, 2 and 3 (30_encoding R58). -/
theorem lengthOf_cases (op : Byte) :
    lengthOf op = none ∨ lengthOf op = some 1 ∨ lengthOf op = some 2 ∨ lengthOf op = some 3 := by
  unfold lengthOf
  cases primaryEntry op <;> simp [Entry.length]

/-- Settles O4: the lists are checked at the 256 first bytes, and the encoder row by row. -/
theorem lengthFollowsFromFirstByte : Obligations.LengthFollowsFromFirstByte := by
  unfold Obligations.LengthFollowsFromFirstByte
  exact ⟨by decide, by decide, lengthOf_eq_none, lengthOf_cases, fun i _ => lengthOf_head_encode i⟩

end Sys2Proof
end

section
/-! PROOF. The step by what dispatch finds at PC: an instruction run, or one of the two errors raised, and
nothing else (30_encoding R74, R75, R90; 60_exceptions R205 to R208). -/

namespace Sys2Proof.Machine

/-! ### The step by the key at PC -/

/-- P8 implements mapped keys only (30_encoding R75). -/
theorem mapped_of_implements {c : Config} {k : OpcodeKey} (h : c.implements k = true) : k.mapped = true := by
  simp only [Config.implements, Bool.and_eq_true] at h
  obtain ⟨⟨⟨mapped, _⟩, _⟩, _⟩ := h
  exact mapped

/-- No P8 implements HALT (46_misc R201). -/
theorem implements_halt (c : Config) : c.implements (.primary 0x76) = false := by
  simp [Config.implements]

/-- No P8 implements STOP (46_misc R202). -/
theorem implements_stop (c : Config) : c.implements (.primary 0x10) = false := by
  simp [Config.implements]

/-- A mapped key that P8 leaves out raises UnimplementedInstruction (30_encoding R75). -/
theorem step_of_unimplemented {s : State} (running : s.status = .running) (mapped : s.key.mapped = true)
    (left : s.config.implements s.key = false) :
    step s = .next ((s.setLog (s.fetchEvents (keyBytes s.key))).setStatus
      (.faulted .unimplementedInstruction s.key s.pc)) := by
  simp only [step, running]
  rcases fetch_cases s with ⟨implemented, _⟩ | ⟨_, _, found⟩ | ⟨unmapped, _⟩
  · simp [left] at implemented
  · rw [found]; rfl
  · simp [mapped] at unmapped

/-- An unmapped key raises UnmappedOpcode (30_encoding R74). -/
theorem step_of_unmapped {s : State} (running : s.status = .running) (unmapped : s.key.mapped = false) :
    step s = .next ((s.setLog (s.fetchEvents (keyBytes s.key))).setStatus
      (.faulted .unmappedOpcode s.key s.pc)) := by
  simp only [step, running]
  rcases fetch_cases s with ⟨implemented, _⟩ | ⟨mapped, _⟩ | ⟨_, _, _, _, found⟩
  · simp [mapped_of_implements implemented] at unmapped
  · simp [mapped] at unmapped
  · rw [found]; rfl

/-- An implemented key runs an instruction other than HALT and STOP. -/
theorem step_of_implemented {s : State} (running : s.status = .running)
    (implemented : s.config.implements s.key = true) :
    ∃ (i : Instr) (events : List OobEvent), i ≠ .halt ∧ i ≠ .stop ∧ step s = exec i (s.setLog events) := by
  simp only [step, running]
  rcases fetch_cases s with ⟨_, i, _, _, notHalt, notStop, found⟩ | ⟨_, left, _⟩ | ⟨_, _, _, left, _⟩
  · exact ⟨i, _, notHalt, notStop, by rw [found]; rfl⟩
  · simp [left] at implemented
  · simp [left] at implemented

/-- Settles O9: an instruction other than HALT and STOP keeps the status, and each error sets it. -/
theorem runningStepsStopOnlyAtDispatch : Obligations.RunningStepsStopOnlyAtDispatch := by
  unfold Obligations.RunningStepsStopOnlyAtDispatch
  intro s running
  cases implemented : s.config.implements s.key with
  | true =>
    obtain ⟨i, events, notHalt, notStop, ran⟩ := step_of_implemented running implemented
    rw [exec_eq] at ran
    have kept : (formEffect i.form (s.setLog events)).status = s.status :=
      formEffect_status (form_ne (x := .halt) notHalt) (form_ne (x := .stop) notStop) _
    exact ⟨_, ran, by simp [kept, running]⟩
  | false =>
    cases mapped : s.key.mapped with
    | true => exact ⟨_, step_of_unimplemented running mapped implemented, by simp⟩
    | false => exact ⟨_, step_of_unmapped running mapped, by simp⟩

/-! ### The two errors -/

/-- A first byte decodes to the unmapped error exactly when it has no length (30_encoding R58, R74). -/
theorem decode_eq_unmapped (op : Byte) (rest : List Byte) :
    decode (op :: rest) = .error (.unmapped op) ↔ lengthOf op = none := by
  rw [decode, lengthOf]
  cases primaryEntry op with
  | escape | f2 mk => cases rest <;> simp [Entry.complete, Entry.length]
  | f3 mk => rcases rest with _ | ⟨_, _ | ⟨_, _⟩⟩ <;> simp [Entry.complete, Entry.length]
  | unmapped | f1 f | fstop f => simp [Entry.complete, Entry.length]

/-- A primary byte without a length has no table entry (30_encoding R74). -/
theorem mapped_primary_of_lengthOf_none {op : Byte} (h : lengthOf op = none) :
    (OpcodeKey.primary op).mapped = false := by
  cases entry : primaryEntry op with
  | unmapped => simp only [OpcodeKey.mapped, entry]
  | _ => rw [lengthOf, entry] at h; cases h

/-- The key of a first byte that is not the escape is that byte (30_encoding R70). -/
theorem key_of_ne_escape {s : State} {op : Byte} (opcode : s.peek s.pc.toNat = op) (ne : op ≠ escapeByte) :
    s.key = .primary op := by
  rw [State.key, opcode, if_neg ne]

/-- Settles O6: the eleven bytes are those without a length, and the escape byte has one. -/
theorem unmappedBytesRaise : Obligations.UnmappedBytesRaise := by
  unfold Obligations.UnmappedBytesRaise
  refine ⟨fun op rest => (decode_eq_unmapped op rest).trans (lengthOf_eq_none op), fun _ => rfl,
    fun s running listed => ?_⟩
  have noLength := (lengthOf_eq_none _).mpr listed
  have ne : s.peek s.pc.toNat ≠ escapeByte := fun e => by rw [e] at noLength; cases noLength
  have key := key_of_ne_escape rfl ne
  have raised := step_of_unmapped running (by rw [key]; exact mapped_primary_of_lengthOf_none noLength)
  rwa [key] at raised

/-- Settles O7: the default P8 leaves nothing out but HALT and STOP. -/
theorem unimplementedKeysRaise : Obligations.UnimplementedKeysRaise := by
  unfold Obligations.UnimplementedKeysRaise
  refine ⟨fun k => ?_, fun s => step_of_unimplemented⟩
  simp [Config.implements, Config.default, and_assoc]

/-! ### HALT and STOP at PC -/

/-- HALT and STOP are decoded from their own opcodes alone (46_misc R201, R202). -/
theorem peek_of_decode_halt_stop {s : State} {i : Instr} {rest : List Byte}
    (decoded : decode s.window = .ok (i, rest)) :
    (i = .halt → s.peek s.pc.toNat = 0x76) ∧ (i = .stop → s.peek s.pc.toNat = 0x10) := by
  obtain ⟨_, encoded, stop⟩ := encodeInvertsDecode _ _ _ decoded
  refine ⟨?_, fun e => Option.some.inj (stop e)⟩
  rintro rfl
  exact (List.cons.inj (encoded (by decide))).1.symm

/-- A first byte that is mapped and that P8 leaves out raises after its one opcode byte (60_exceptions R206). -/
theorem step_of_unimplemented_opcode {s : State} {op : Byte} (running : s.status = .running)
    (opcode : s.peek s.pc.toNat = op) (ne : op ≠ escapeByte) (mapped : (OpcodeKey.primary op).mapped = true)
    (left : s.config.implements (.primary op) = false) :
    step s = .next ((s.setLog (s.fetchEvents 1)).setStatus
      (.faulted .unimplementedInstruction (.primary op) s.pc)) := by
  have key := key_of_ne_escape opcode ne
  have raised := step_of_unimplemented running (by rwa [key]) (by rwa [key])
  rwa [key] at raised

/-- HALT and STOP's opcodes are mapped and no P8 implements them, so the step raises what `exec` of them
does (46_misc R201, R202). -/
theorem step_of_decode_halt_stop {s : State} {i : Instr} {rest : List Byte} (running : s.status = .running)
    (decoded : decode s.window = .ok (i, rest)) (h : i = .halt ∨ i = .stop) :
    step s = exec i (s.setLog (s.fetchEvents 1)) := by
  obtain ⟨halt, stop⟩ := peek_of_decode_halt_stop decoded
  rcases h with rfl | rfl
  · exact step_of_unimplemented_opcode running (halt rfl) (by decide) rfl (implements_halt s.config)
  · exact step_of_unimplemented_opcode running (stop rfl) (by decide) rfl (implements_stop s.config)

/-- Settles O5: an implemented key runs what the bytes decode to, and HALT and STOP raise. -/
theorem stepRunsDecodedInstruction : Obligations.StepRunsDecodedInstruction := by
  unfold Obligations.StepRunsDecodedInstruction
  exact fun _ _ _ running decoded => ⟨fun implemented => step_of_decode running implemented decoded,
    step_of_decode_halt_stop running decoded⟩

end Sys2Proof.Machine
end

section
/-! PROOF. Where PC goes after an instruction that stays in line, and the conditions that decide whether one
does (30_encoding R62, R90, R91; 45_control R188). -/

namespace Sys2Proof.Machine

/-- An instruction that neither branches nor raises goes to the byte after its encoding: a conditional one
because its condition fails, the others by their lengths (30_encoding R91). -/
theorem formPc_of_inLine {i : Instr} {s : State} (inLine : formLeavesLine i.form s.f = false) :
    formPc i.form s = s.pc + BitVec.ofNat 16 (encode i).length := by
  cases i with
  | jpNzN16 w | jpZN16 w | jpNcN16 w | jpCN16 w | jrNzE8 e | jrZE8 e | jrNcE8 e | jrCE8 e
  | callNzN16 w | callZN16 w | callNcN16 w | callCN16 w | retNz | retZ | retNc | retC =>
    exact if_neg (Bool.eq_false_iff.mp inLine)
  | jpN16 w | jpHl | jrE8 e | callN16 w | ret | reti | halt | stop
  | rst00 | rst08 | rst10 | rst18 | rst20 | rst28 | rst30 | rst38 => cases inLine
  | _ => rfl

/-- Settles O54: `exec` leaves PC where the form's rule puts it. -/
theorem pcAdvancesByLength : Obligations.PcAdvancesByLength := by
  unfold Obligations.PcAdvancesByLength
  intro i s t _ h
  rw [exec_eq] at h
  cases h
  exact ⟨formPc_of_inLine, by rintro (rfl | rfl) <;> rfl⟩

/-- A bit of F in arithmetic (10_state R24). -/
theorem asBool_iff (b : FlagBit) (f : Byte) : asBool b f = true ↔ f.toNat / 2 ^ b.val % 2 = 1 := by
  rw [asBool, BitVec.getLsbD, Nat.testBit_eq_decide_div_mod_eq, decide_eq_true_eq]

theorem not_asBool_iff (b : FlagBit) (f : Byte) : (!asBool b f) = true ↔ f.toNat / 2 ^ b.val % 2 = 0 := by
  rw [Bool.not_eq_true', ← Bool.not_eq_true, asBool_iff]
  omega

/-- Settles O44: a condition is a bit of F or its negation, and bit 7 is all that 128 leaves. -/
theorem conditionsReadFlags : Obligations.ConditionsReadFlags := by
  unfold Obligations.ConditionsReadFlags
  refine ⟨fun cc => by cases cc <;> rfl, ⟨rfl, rfl, rfl, rfl⟩, fun f => ?_⟩
  have top : f.toNat / 128 % 2 = f.toNat / 128 := by have := f.isLt; omega
  refine ⟨rfl, ?_, ?_, not_asBool_iff flagN f, asBool_iff flagN f, not_asBool_iff flagH f,
    asBool_iff flagH f, not_asBool_iff flagC f, asBool_iff flagC f⟩
  · rw [← top]; exact not_asBool_iff flagZ f
  · rw [← top]; exact asBool_iff flagZ f

end Sys2Proof.Machine
end

section
/-! PROOF. The 8-bit loads: how a form runs, that its bytes at PC run it, and each load's encoding and next
state (40_load8 R95 to R113). -/

namespace Sys2Proof.Machine

/-! ### Running a form -/

/-- What `exec` answers for the row of a form (30_encoding R90). -/
theorem exec_instr (x : Form) (s : State) : exec x.instr s = .next ((formEffect x s).setPc (formPc x s)) := by
  rw [exec_eq, instr_form]

/-- A well-formed instruction whose bytes are at PC is what those bytes decode to, so a running step with its
key implemented runs it (30_encoding R56, R90). -/
theorem runsFetched {i : Instr} (wellFormed : i.wellFormed = true) (s : State) : RunsFetched i s := by
  intro running implemented bytes
  have window : encode i ++ s.window.drop (encode i).length = s.window := by
    calc encode i ++ s.window.drop (encode i).length
        = s.window.take (encode i).length ++ s.window.drop (encode i).length := by rw [bytes]
      _ = s.window := List.take_append_drop _ _
  have decoded := decodeInvertsEncode i (s.window.drop (encode i).length) wellFormed
  rw [window] at decoded
  exact step_of_decode running implemented decoded

/-! ### Encodings with a register field -/

/-- LD r,r' is 01 yyy zzz (30_encoding R71). -/
theorem encode_ldRR (dst src : Reg8) :
    encode (Form.ldRR dst src).instr = [byteOf (0x40 + 8 * reg8Code dst + reg8Code src)] := by
  cases dst <;> cases src <;> rfl

/-- LD r,n8 is 00 yyy 110 and the byte (30_encoding R71). -/
theorem encode_ldRN8 (r : Reg8) (n : Byte) :
    encode (Form.ldRN8 r n).instr = [byteOf (0x06 + 8 * reg8Code r), n] := by
  cases r <;> rfl

theorem wellFormed_ldRN8 (r : Reg8) (n : Byte) : (Form.ldRN8 r n).instr.wellFormed = true := by
  cases r <;> rfl

/-- LD r,(HL) is 01 yyy 110 (30_encoding R71). -/
theorem encode_ldRIndHl (r : Reg8) : encode (Form.ldRIndHl r).instr = [byteOf (0x46 + 8 * reg8Code r)] := by
  cases r <;> rfl

/-- LD (HL),r is 01 110 zzz (30_encoding R71). -/
theorem encode_ldIndHlR (r : Reg8) : encode (Form.ldIndHlR r).instr = [byteOf (0x70 + reg8Code r)] := by
  cases r <;> rfl

/-! ### The obligations -/

/-- Settles O11: the form's effect is one register write. -/
theorem ldRegRegCopies : Obligations.LdRegRegCopies := by
  unfold Obligations.LdRegRegCopies
  exact fun dst src s => ⟨encode_ldRR dst src, exec_instr (.ldRR dst src) s⟩

/-- Settles O12: the form's effect is one register write, and its two bytes at PC run it. -/
theorem ldRegImmediate : Obligations.LdRegImmediate := by
  unfold Obligations.LdRegImmediate
  exact fun r n s => ⟨encode_ldRN8 r n, exec_instr (.ldRN8 r n) s, runsFetched (wellFormed_ldRN8 r n) s⟩

/-- Settles O13: every effect is `loadReg` at the form's address, in the high page for LDH. -/
theorem loadsFromMemory : Obligations.LoadsFromMemory := by
  unfold Obligations.LoadsFromMemory
  intro s
  simp only [← highPage_eq]
  exact ⟨fun r => ⟨encode_ldRIndHl r, exec_instr (.ldRIndHl r) s⟩,
    ⟨rfl, exec_eq .ldAIndBc s⟩,
    ⟨rfl, exec_eq .ldAIndDe s⟩,
    fun w => ⟨rfl, exec_eq (.ldAIndN16 w) s, runsFetched rfl s⟩,
    ⟨rfl, exec_eq .ldhAIndC s⟩,
    fun n => ⟨rfl, exec_eq (.ldhAIndN8 n) s, runsFetched rfl s⟩⟩

/-- Settles O14: every effect is `writeU8` at the form's address, in the high page for LDH. -/
theorem storesToMemory : Obligations.StoresToMemory := by
  unfold Obligations.StoresToMemory
  intro s
  simp only [← highPage_eq]
  exact ⟨fun r => ⟨encode_ldIndHlR r, exec_instr (.ldIndHlR r) s⟩,
    fun n => ⟨rfl, exec_eq (.ldIndHlN8 n) s, runsFetched rfl s⟩,
    ⟨rfl, exec_eq .ldIndBcA s⟩,
    ⟨rfl, exec_eq .ldIndDeA s⟩,
    fun w => ⟨rfl, exec_eq (.ldIndN16A w) s, runsFetched rfl s⟩,
    ⟨rfl, exec_eq .ldhIndCA s⟩,
    fun n => ⟨rfl, exec_eq (.ldhIndN8A n) s, runsFetched rfl s⟩⟩

/-- Settles O15: the effect accesses the old HL after HL has moved, and moving HL changes neither memory
nor A. -/
theorem postIncrementLoads : Obligations.PostIncrementLoads := by
  unfold Obligations.PostIncrementLoads
  exact fun s => ⟨⟨rfl, exec_eq .ldAHli s⟩, ⟨rfl, exec_eq .ldAHld s⟩, ⟨rfl, exec_eq .ldHliA s⟩,
    ⟨rfl, exec_eq .ldHldA s⟩⟩

end Sys2Proof.Machine
end

section
/-! PROOF. The 16-bit loads and the stack: each load's encoding and next state, Push16 and Pop16 in both
directions, that a pop undoes a push, and that RET undoes CALL (41_load16_stack R114 to R121; 45_control R194,
R196). -/

namespace Sys2Proof.Machine

/-! ### The 16-bit loads -/

/-- LD rr,n16 is 00 pp0 001 and the word, low byte first (30_encoding R71). -/
theorem encode_ldRpN16 (p : Rp) (w : Word) :
    encode (Form.ldRpN16 p w).instr = [byteOf (0x01 + 16 * rpCode p), lo w, hi w] := by
  cases p <;> rfl

theorem wellFormed_ldRpN16 (p : Rp) (w : Word) : (Form.ldRpN16 p w).instr.wellFormed = true := by
  cases p <;> rfl

/-- Settles O16: the effects are one pair write, one word write and one write of SP. -/
theorem wordLoads : Obligations.WordLoads := by
  unfold Obligations.WordLoads
  exact fun s w => ⟨
    fun p => ⟨encode_ldRpN16 p w, exec_instr (.ldRpN16 p w) s, runsFetched (wellFormed_ldRpN16 p w) s⟩,
    ⟨rfl, exec_eq (.ldIndN16Sp w) s, runsFetched rfl s⟩,
    ⟨rfl, exec_eq .ldSpHl s⟩⟩

theorem speLoadFlags_keep {cfg : Config} (h : cfg.speLoadFlags = .keep) (sp : Word) (e f : Byte) :
    speLoadFlags cfg sp e f = f := by
  rw [speLoadFlags, h]

theorem speLoadFlags_sm83 {cfg : Config} (h : cfg.speLoadFlags = .sm83) (sp : Word) (e f : Byte) :
    speLoadFlags cfg sp e f = spOffsetFlags sp e f := by
  rw [speLoadFlags, h]

/-- LD HL,SP+e8 writes HL, and F by P6 (41_load16_stack R119). -/
theorem exec_ldHlSpE8 (e : Byte) (s : State) : exec (.ldHlSpE8 e) s =
    .next (((s.set16 .hl (s.sp + e.signExtend 16)).setF (speLoadFlags s.config s.sp e s.f)).setPc (s.pc + 2)) := by
  rw [← sext16_eq]
  exact exec_eq (.ldHlSpE8 e) s

/-- Settles O17: under Keep the F written is F itself, and under SM83 it is the offset's flags. -/
theorem ldHlSpOffset : Obligations.LdHlSpOffset := by
  unfold Obligations.LdHlSpOffset
  refine fun e s => ⟨rfl, runsFetched rfl s, fun keep => ?_, fun sm83 => ?_⟩
  · rw [exec_ldHlSpE8, speLoadFlags_keep keep]
    rfl
  · rw [exec_ldHlSpE8, speLoadFlags_sm83 sm83, spOffsetFlags_eq]

/-! ### Push16 and Pop16 by direction -/

theorem push16_up {s : State} (up : s.config.stackDir = .up) (w : Word) :
    push16 w s = (writeU16 s.sp w s).setSp (s.sp + 2) := by
  rw [push16, up]

theorem push16_down {s : State} (down : s.config.stackDir = .down) (w : Word) :
    push16 w s = writeU16 (s.sp - 2) w (s.setSp (s.sp - 2)) := by
  rw [push16, down]

theorem pop16_up {s : State} (up : s.config.stackDir = .up) :
    pop16 s = readU16 (s.sp - 2) (s.setSp (s.sp - 2)) := by
  rw [pop16, up]

theorem pop16_down {s : State} (down : s.config.stackDir = .down) :
    pop16 s = ((readU16 s.sp s).1, (readU16 s.sp s).2.setSp (s.sp + 2)) := by
  rw [pop16, down]

/-- Settles O18, one direction at a time. -/
theorem stackPrimitivesMove : Obligations.StackPrimitivesMove := by
  unfold Obligations.StackPrimitivesMove
  exact fun _ w => ⟨fun up => ⟨push16_up up w, pop16_up up⟩,
    fun down => ⟨push16_down down w, pop16_down down⟩⟩

/-! ### PUSH and POP -/

/-- PUSH rr is 11 pp0 101 (30_encoding R71). -/
theorem encode_push (p : Rp2) : encode (Form.push p).instr = [byteOf (0xC5 + 16 * rp2Code p)] := by
  cases p <;> rfl

/-- POP rr is 11 pp0 001 (30_encoding R71). -/
theorem encode_pop (p : Rp2) : encode (Form.pop p).instr = [byteOf (0xC1 + 16 * rp2Code p)] := by
  cases p <;> rfl

theorem exec_push (p : Rp2) (s : State) :
    exec (Form.push p).instr s = .next ((push16 (s.get16 p.reg) s).setPc (s.pc + 1)) :=
  exec_instr (.push p) s

theorem exec_pop (p : Rp2) (s : State) :
    exec (Form.pop p).instr s = .next (((pop16 s).2.set16 p.reg (pop16 s).1).setPc (s.pc + 1)) :=
  exec_instr (.pop p) s

/-- Settles O20: growing down, SP may as well move after the word is written. -/
theorem pushStoresPair : Obligations.PushStoresPair := by
  unfold Obligations.PushStoresPair
  refine fun p s => ⟨encode_push p, fun up => ?_, fun down => ?_⟩
  · rw [exec_push, push16_up up]
  · rw [exec_push, push16_down down, writeU16_setSp]

/-- P2's two values say where a pop reads and leaves SP (41_load16_stack R114). -/
theorem popSlot_unique {s : State} {slot after : Word}
    (up : s.config.stackDir = .up → slot = s.sp - 2 ∧ after = s.sp - 2)
    (down : s.config.stackDir = .down → slot = s.sp ∧ after = s.sp + 2) :
    slot = popBase s ∧ after = popSp s := by
  unfold popBase popSp
  cases dir : s.config.stackDir with
  | up => exact up dir
  | down => exact down dir

/-- Settles O21: the slot and the new SP are the pop's, and the pop reads its slot's two bytes. -/
theorem popLoadsPair : Obligations.PopLoadsPair := by
  unfold Obligations.PopLoadsPair
  refine fun p s slot after => ⟨encode_pop p, fun up down => ?_⟩
  obtain ⟨rfl, rfl⟩ := popSlot_unique up down
  rw [exec_pop, pop16_eq]

/-! ### A pop after a push -/

/-- P2's two values say where a push writes (41_load16_stack R114). -/
theorem pushBase_unique {s : State} {base : Word} (up : s.config.stackDir = .up → base = s.sp)
    (down : s.config.stackDir = .down → base = s.sp - 2) : base = pushBase s := by
  unfold pushBase
  cases dir : s.config.stackDir with
  | up => exact up dir
  | down => exact down dir

/-- P2's two values say where a push leaves SP (41_load16_stack R114). -/
theorem pushSp_unique {s : State} {after : Word} (up : s.config.stackDir = .up → after = s.sp + 2)
    (down : s.config.stackDir = .down → after = s.sp - 2) : after = pushSp s := by
  unfold pushSp
  cases dir : s.config.stackDir with
  | up => exact up dir
  | down => exact down dir

@[simp] theorem push16_sp (w : Word) (s : State) : (push16 w s).sp = pushSp s := by
  rw [push16_eq, setSp_sp]

/-- A pop after a push reads where the push wrote (41_load16_stack R115). -/
@[simp] theorem popBase_push16 (w : Word) (s : State) : popBase (push16 w s) = pushBase s := by
  unfold popBase pushBase
  rw [push16_config, push16_sp, pushSp]
  cases s.config.stackDir with
  | up => exact BitVec.add_sub_cancel s.sp 2
  | down => rfl

/-- A pop after a push moves SP back (41_load16_stack R115). -/
@[simp] theorem popSp_push16 (w : Word) (s : State) : popSp (push16 w s) = s.sp := by
  unfold popSp
  rw [push16_config, push16_sp, pushSp]
  cases s.config.stackDir with
  | up => exact BitVec.add_sub_cancel s.sp 2
  | down => exact BitVec.sub_add_cancel s.sp 2

/-- A pop in one form for both directions, by the word read it makes (41_load16_stack R114). -/
theorem pop16_eq_readU16 (s : State) :
    pop16 s = ((readU16 (popBase s) s).1, (readU16 (popBase s) s).2.setSp (popSp s)) := by
  rw [pop16_eq, readU16_eq]

/-- With SP put back, what is left of a push is its word write (41_load16_stack R114). -/
theorem setSp_push16 (w : Word) (s : State) : (push16 w s).setSp s.sp = writeU16 (pushBase s) w s := by
  calc (push16 w s).setSp s.sp
      = (writeU16 (pushBase s) w s).setSp (writeU16 (pushBase s) w s).sp := by
        rw [push16_eq, writeU16_sp]
        rfl
    _ = writeU16 (pushBase s) w s := rfl

/-- A pop after a push in range gives the word back, and only the word written stays changed
(41_load16_stack R115). -/
theorem pop16_push16 {s : State} (low : s.inRange (pushBase s).toNat = true)
    (high : s.inRange (secondAddr s.config (pushBase s)) = true) (w : Word) :
    pop16 (push16 w s) = (w, writeU16 (pushBase s) w s) := by
  have memory : (push16 w s).mem = (writeU16 (pushBase s) w s).mem := by rw [push16_eq, setSp_mem]
  have word := readU16_of_writeU16 low high memory (push16_config w s)
  rw [pop16_eq_readU16, popBase_push16, popSp_push16, word, setSp_push16]

/-- A push in range stores the low byte first (41_load16_stack R114; 20_memory R40). -/
theorem peek_push16_low {s : State} (low : s.inRange (pushBase s).toNat = true) (w : Word) :
    (push16 w s).peek (pushBase s).toNat = lo w := by
  have notSecond := (secondAddr_ne s.config (pushBase s)).symm
  rw [push16_eq, peek_setSp, peek_writeU16, if_neg fun e => notSecond e.1, if_pos ⟨rfl, low⟩]

theorem peek_push16_high {s : State} (high : s.inRange (secondAddr s.config (pushBase s)) = true) (w : Word) :
    (push16 w s).peek (secondAddr s.config (pushBase s)) = hi w := by
  rw [push16_eq, peek_setSp, peek_writeU16, if_pos ⟨rfl, high⟩]

/-- Settles O19: the word written is the word read, at the push's slot. -/
theorem popInvertsPush : Obligations.PopInvertsPush := by
  unfold Obligations.PopInvertsPush
  intro s w base after up down low high
  obtain rfl := pushBase_unique (fun h => (up h).1) (fun h => (down h).1)
  obtain rfl := pushSp_unique (fun h => (up h).2) (fun h => (down h).2)
  have popped := pop16_push16 low high w
  exact ⟨push16_sp w s, peek_push16_low low w, peek_push16_high high w, popped,
    by rw [popped, writeU16_sp]⟩

/-! ### RET after CALL -/

theorem noteRead_setPc (n : Nat) (x : Word) (s : State) : (s.setPc x).noteRead n = (s.noteRead n).setPc x := by
  unfold State.noteRead
  rw [inRange_of_config (s := s) (t := s.setPc x) rfl]
  split <;> rfl

/-- A pop neither reads PC nor writes it (41_load16_stack R114). -/
theorem pop16_setPc (x : Word) (s : State) : pop16 (s.setPc x) = ((pop16 s).1, (pop16 s).2.setPc x) := by
  have base : popBase (s.setPc x) = popBase s := rfl
  have sp : popSp (s.setPc x) = popSp s := rfl
  rw [pop16_eq, pop16_eq, base, sp]
  simp only [setPc_config, peek_setPc, noteRead_setPc]
  rfl

theorem exec_callN16 (w : Word) (s : State) : exec (.callN16 w) s = .next ((push16 (s.pc + 3) s).setPc w) :=
  exec_eq (.callN16 w) s

theorem exec_ret (s : State) : exec .ret s = .next ((pop16 s).2.setPc (pop16 s).1) :=
  exec_eq .ret s

/-- Settles O48: RET pops what CALL pushed, the address after the CALL. -/
theorem returnFollowsCall : Obligations.ReturnFollowsCall := by
  unfold Obligations.ReturnFollowsCall
  intro s t w base up down low high h
  obtain rfl := pushBase_unique up down
  rw [exec_callN16] at h
  cases h
  refine ⟨rfl, ?_⟩
  rw [exec_ret, pop16_setPc, pop16_push16 low high]
  rfl

end Sys2Proof.Machine
end

section
/-! PROOF. 8-bit arithmetic and logic: the two-step adders and each flag rule in closed form, then each
instruction's encoding and next state (42_alu8 R122 to R157). -/

namespace Sys2Proof.Machine

/-! ### Bytes as numbers -/

theorem toNat_byteOf (n : Nat) : (byteOf n).toNat = n % 256 := BitVec.toNat_ofNat n 8

theorem eq_byteOf {v : Byte} {n : Nat} (h : v.toNat = n % 256) : v = byteOf n :=
  BitVec.eq_of_toNat_eq (h.trans (toNat_byteOf n).symm)

theorem byteOf_eq_zero_iff (n : Nat) : byteOf n = 0 ↔ n % 256 = 0 := by
  rw [← BitVec.toNat_inj, toNat_byteOf]
  rfl

theorem toNat_carryByte (c : Bool) : (carryByte c).toNat = c.toNat := by
  cases c <;> rfl

/-! ### The two-step adders -/

/-- At most one of the two steps carries out of the byte: a first step that does leaves at most 0xFE
(42_alu8 R124). -/
theorem toNat_add_of_carry {x y : Byte} (h : x.toNat + y.toNat > 0xFF) : (x + y).toNat ≤ 0xFE := by
  rw [BitVec.toNat_add]
  omega

/-- At most one of the two steps borrows: a first step that does leaves at least 1 (42_alu8 R124). -/
theorem toNat_sub_of_borrow {x y : Byte} (h : x.toNat < y.toNat) : 1 ≤ (x - y).toNat := by
  rw [BitVec.toNat_sub]
  omega

/-- At most one of the two steps carries out of the low nibble (42_alu8 R124). -/
theorem nibble_add_of_carry {x y : Byte} (h : x.toNat % 16 + y.toNat % 16 > 15) :
    (x + y).toNat % 16 ≤ 14 := by
  rw [BitVec.toNat_add]
  omega

/-- At most one of the two steps borrows into the low nibble (42_alu8 R124). -/
theorem nibble_sub_of_borrow {x y : Byte} (h : x.toNat % 16 < y.toNat % 16) : 1 ≤ (x - y).toNat % 16 := by
  rw [BitVec.toNat_sub]
  omega

theorem add_carryByte (x y : Byte) (cin : Bool) :
    x + y + carryByte cin = byteOf (x.toNat + y.toNat + cin.toNat) :=
  eq_byteOf (by rw [BitVec.toNat_add, BitVec.toNat_add, toNat_carryByte, Nat.mod_add_mod])

theorem sub_carryByte (x y : Byte) (cin : Bool) :
    x - y - carryByte cin = byteOf (512 + x.toNat - (y.toNat + cin.toNat)) :=
  eq_byteOf (by
    have carry := cin.toNat_le
    rw [BitVec.toNat_sub, BitVec.toNat_sub, toNat_carryByte]
    omega)

/-- One step or the other carries out of the low nibble exactly when the whole sum does. -/
theorem halfBit_add_carryByte (x y : Byte) (cin : Bool) :
    (halfBit x y (x + y) || halfBit (x + y) (carryByte cin) (x + y + carryByte cin)) =
      decide (x.toNat % 16 + y.toNat % 16 + cin.toNat > 15) := by
  have carry := cin.toNat_le
  rw [halfBit_add, halfBit_add, toNat_carryByte, BitVec.toNat_add, ← Bool.decide_or, decide_eq_decide]
  omega

/-- One step or the other borrows into the low nibble exactly when the whole difference does. -/
theorem halfBit_sub_carryByte (x y : Byte) (cin : Bool) :
    (halfBit x y (x - y) || halfBit (x - y) (carryByte cin) (x - y - carryByte cin)) =
      decide (x.toNat % 16 < y.toNat % 16 + cin.toNat) := by
  have carry := cin.toNat_le
  rw [halfBit_sub, halfBit_sub, toNat_carryByte, BitVec.toNat_sub, ← Bool.decide_or, decide_eq_decide]
  omega

theorem carry_add_carryByte (x y : Byte) (cin : Bool) :
    (decide (x.toNat + y.toNat > 0xFF) || decide ((x + y).toNat + (carryByte cin).toNat > 0xFF)) =
      decide (x.toNat + y.toNat + cin.toNat > 255) := by
  have carry := cin.toNat_le
  rw [toNat_carryByte, BitVec.toNat_add, ← Bool.decide_or, decide_eq_decide]
  omega

theorem borrow_sub_carryByte (x y : Byte) (cin : Bool) :
    (decide (x.toNat < y.toNat) || decide ((x - y).toNat < (carryByte cin).toNat)) =
      decide (x.toNat < y.toNat + cin.toNat) := by
  have carry := cin.toNat_le
  rw [toNat_carryByte, BitVec.toNat_sub, ← Bool.decide_or, decide_eq_decide]
  omega

theorem add8_eq (x y : Byte) (cin : Bool) : add8 x y cin = closedAdd x y cin := by
  simp only [add8, closedAdd, halfBit_add_carryByte, carry_add_carryByte]
  simp only [add_carryByte, byteOf_eq_zero_iff]

theorem sub8_eq (x y : Byte) (cin : Bool) : sub8 x y cin = closedSub x y cin := by
  simp only [sub8, closedSub, halfBit_sub_carryByte, borrow_sub_carryByte]
  simp only [sub_carryByte, byteOf_eq_zero_iff]

/-- Adding back what was subtracted (42_alu8 R124). -/
theorem add8_sub8_result (x y : Byte) : (add8 (sub8 x y false).result y false).result = x := by
  calc (add8 (sub8 x y false).result y false).result
      = x - y - 0 + y + 0 := rfl
    _ = x := by rw [sub_zero, add_zero, sub_add_cancel]

/-- Settles O29: the flags of the two steps together are those of one sum or difference, and a first step
that carries or borrows leaves room for the second. -/
theorem addersHaveClosedForms : Obligations.AddersHaveClosedForms := by
  unfold Obligations.AddersHaveClosedForms
  intro x y cin
  have carry : cin.toNat ≤ 1 := cin.toNat_le
  exact ⟨add8_eq x y cin, sub8_eq x y cin,
    fun h => ⟨toNat_add_of_carry h, Nat.add_le_add (toNat_add_of_carry h) carry⟩,
    fun h => carry.trans (toNat_sub_of_borrow h),
    fun h => Nat.add_le_add (nibble_add_of_carry h) carry,
    fun h => carry.trans (nibble_sub_of_borrow h), add8_sub8_result x y⟩

/-! ### The ALU operations -/

theorem aluFunction_eq (op : AluOp) (x y : Byte) (carry : Bool) :
    aluFunction op x y carry = closedAlu op x y carry := by
  cases op with
  | add | adc => exact add8_eq x y _
  | sub | sbc | cp => exact sub8_eq x y _
  | and | xor | or => rfl

/-- The state after an ALU operation in closed form: the result to A, except for CP, and all four named
flags (42_alu8 R126 to R149). -/
theorem aluNext_eq (op : AluOp) (v : Byte) (s : State) :
    aluNext op v s = (s.set8 .a (if op = .cp then s.a else (closedAlu op s.a v (s.flag flagC)).result)).setF
      (flagsByte (closedAlu op s.a v (s.flag flagC)).z (closedAlu op s.a v (s.flag flagC)).n
        (closedAlu op s.a v (s.flag flagC)).h (closedAlu op s.a v (s.flag flagC)).c s.f) := by
  simp only [aluNext, aluCombine, aluFunction_eq, writeFlags_eq, State.flag]

theorem noteRead_flag (n : Nat) (b : FlagBit) (s : State) : (s.noteRead n).flag b = s.flag b := by
  rw [State.flag, noteRead_f, State.flag]

/-- An ALU operation with a register is 10 yyy zzz (30_encoding R71). -/
theorem encode_aluR (op : AluOp) (r : Reg8) :
    encode (Form.aluR op r).instr = [byteOf (0x80 + 8 * aluCode op + reg8Code r)] := by
  cases op <;> cases r <;> rfl

/-- An ALU operation with the byte at HL is 10 yyy 110 (30_encoding R71). -/
theorem encode_aluIndHl (op : AluOp) : encode (Form.aluIndHl op).instr = [byteOf (0x86 + 8 * aluCode op)] := by
  cases op <;> rfl

/-- An ALU operation with an immediate is 11 yyy 110 and the byte (30_encoding R71). -/
theorem encode_aluN8 (op : AluOp) (n : Byte) :
    encode (Form.aluN8 op n).instr = [byteOf (0xC6 + 8 * aluCode op), n] := by
  cases op <;> rfl

theorem wellFormed_aluN8 (op : AluOp) (n : Byte) : (Form.aluN8 op n).instr.wellFormed = true := by
  cases op <;> rfl

/-- Settles O30: the form's effect is `aluNext` of the register. -/
theorem aluWithRegister : Obligations.AluWithRegister := by
  unfold Obligations.AluWithRegister
  refine fun op r s => ⟨encode_aluR op r, ?_⟩
  rw [exec_instr, formEffect, aluNext_eq]
  rfl

/-- Settles O31: the form's effect is `aluNext` of the byte at HL, and the read changes neither A nor F. -/
theorem aluWithIndHl : Obligations.AluWithIndHl := by
  unfold Obligations.AluWithIndHl
  refine fun op s => ⟨encode_aluIndHl op, ?_⟩
  rw [exec_instr, formEffect, aluNext_eq, noteRead_flag, noteRead_a, noteRead_f]
  rfl

/-- Settles O32: the form's effect is `aluNext` of the immediate, and its two bytes at PC run it. -/
theorem aluWithImmediate : Obligations.AluWithImmediate := by
  unfold Obligations.AluWithImmediate
  refine fun op n s => ⟨encode_aluN8 op n, runsFetched (wellFormed_aluN8 op n) s, ?_⟩
  rw [exec_instr, formEffect, aluNext_eq]
  rfl

/-! ### INC and DEC -/

theorem add_one_eq_byteOf (v : Byte) : v + 1 = byteOf (v.toNat + 1) := eq_byteOf (BitVec.toNat_add v 1)

theorem sub_one_eq_byteOf (v : Byte) : v - 1 = byteOf (v.toNat + 255) :=
  eq_byteOf ((BitVec.toNat_sub v 1).trans (by rw [Nat.add_comm]; rfl))

/-- INC in closed form: it carries out of the low nibble from 15 (42_alu8 R150). -/
theorem incCombine_eq (v f : Byte) : incCombine v 1 f = (byteOf (v.toNat + 1),
    flagsByte (decide (v.toNat = 255)) false (decide (v.toNat % 16 = 15)) (asBool flagC f) f) := by
  have bound := v.isLt
  have zero : (v.toNat + 1) % 256 = 0 ↔ v.toNat = 255 := by omega
  have one : (1 : Byte).toNat = 1 := rfl
  have half : v.toNat % 16 + 1 % 16 > 15 ↔ v.toNat % 16 = 15 := by omega
  simp only [incCombine, writeZNH_eq, halfBit_add, one, half]
  simp only [add_one_eq_byteOf, byteOf_eq_zero_iff, zero]

/-- DEC in closed form: it borrows into the low nibble from 0 (42_alu8 R152). -/
theorem decCombine_eq (v f : Byte) : decCombine v 1 f = (byteOf (v.toNat + 255),
    flagsByte (decide (v.toNat = 1)) true (decide (v.toNat % 16 = 0)) (asBool flagC f) f) := by
  have bound := v.isLt
  have zero : (v.toNat + 255) % 256 = 0 ↔ v.toNat = 1 := by omega
  have half : v.toNat % 16 < (1 : Byte).toNat % 16 ↔ v.toNat % 16 = 0 := Nat.lt_one_iff
  simp only [decCombine, writeZNH_eq, halfBit_sub, half]
  simp only [sub_one_eq_byteOf, byteOf_eq_zero_iff, zero]

/-- INC r is 00 yyy 100 (30_encoding R71). -/
theorem encode_incR (r : Reg8) : encode (Form.incR r).instr = [byteOf (0x04 + 8 * reg8Code r)] := by
  cases r <;> rfl

/-- DEC r is 00 yyy 101 (30_encoding R71). -/
theorem encode_decR (r : Reg8) : encode (Form.decR r).instr = [byteOf (0x05 + 8 * reg8Code r)] := by
  cases r <;> rfl

theorem exec_incIndHl (s : State) :
    exec .incIndHl s = .next ((modifyHl (fun v f => incCombine v 1 f) s).setPc (s.pc + 1)) :=
  exec_eq .incIndHl s

theorem exec_decIndHl (s : State) :
    exec .decIndHl s = .next ((modifyHl (fun v f => decCombine v 1 f) s).setPc (s.pc + 1)) :=
  exec_eq .decIndHl s

/-- Settles O33: every effect is a read-modify-write by INC's or DEC's rule. -/
theorem incDecBytes : Obligations.IncDecBytes := by
  unfold Obligations.IncDecBytes
  refine fun s => ⟨fun r => ⟨encode_incR r, ?_⟩, ⟨rfl, ?_⟩, fun r => ⟨encode_decR r, ?_⟩, ⟨rfl, ?_⟩⟩
  · rw [exec_instr, formEffect, modifyReg, incCombine_eq]
    rfl
  · rw [exec_incIndHl, modifyHl, incCombine_eq]
    rfl
  · rw [exec_instr, formEffect, modifyReg, decCombine_eq]
    rfl
  · rw [exec_decIndHl, modifyHl, decCombine_eq]
    rfl

/-! ### DAA -/

/-- DAA adjusts by 0x60: C is set or, adding, A is above 0x99 (42_alu8 R154). -/
def daaHigh (a f : Byte) : Bool := asBool flagC f || (!(asBool flagN f) && decide (a.toNat > 0x99))

/-- DAA adjusts by 0x06: H is set or, adding, the low nibble is above 9 (42_alu8 R154). -/
def daaLow (a f : Byte) : Bool := asBool flagH f || (!(asBool flagN f) && decide (a.toNat % 16 > 9))

/-- DAA's result on A's number: 0x60 under `high` and 0x06 under `low`, subtracted under `n` and added otherwise
(42_alu8 R154). -/
def daaNumber (n high low : Bool) (a : Nat) : Nat :=
  let d := (if high then 0x60 else 0) + (if low then 0x06 else 0)
  if n then (a + 512 - d) % 256 else (a + d) % 256

theorem daaNumber_mod (n high low : Bool) (a : Nat) : daaNumber n high low a % 256 = daaNumber n high low a := by
  cases n <;> exact Nat.mod_mod _ 256

theorem toNat_ite_add (c : Bool) (a k : Byte) :
    (if c then a + k else a).toNat = (a.toNat + if c then k.toNat else 0) % 256 := by
  cases c with
  | false => exact (Nat.mod_eq_of_lt a.isLt).symm
  | true => exact BitVec.toNat_add a k

theorem toNat_ite_sub (c : Bool) (a k : Byte) :
    (if c then a - k else a).toNat = (a.toNat + 256 - if c then k.toNat else 0) % 256 := by
  have bound := k.isLt
  cases c with
  | false => exact ((Nat.add_mod_right _ _).trans (Nat.mod_eq_of_lt a.isLt)).symm
  | true =>
    rw [if_pos rfl, if_pos rfl, BitVec.toNat_sub]
    omega

/-- The two steps of the add path are one addition. -/
theorem daa_add_eq (a : Byte) (high low : Bool) :
    (if low then (if high then a + 0x60 else a) + 0x06 else (if high then a + 0x60 else a)) =
      byteOf (daaNumber false high low a.toNat) := by
  apply eq_byteOf
  rw [daaNumber_mod, toNat_ite_add, toNat_ite_add, Nat.mod_add_mod, Nat.add_assoc]
  rfl

/-- The two steps of the subtract path are one subtraction. -/
theorem daa_sub_eq (a : Byte) (high low : Bool) :
    (if low then (if high then a - 0x60 else a) - 0x06 else (if high then a - 0x60 else a)) =
      byteOf (daaNumber true high low a.toNat) := by
  apply eq_byteOf
  have k60 : (0x60 : Byte).toNat = 0x60 := rfl
  have k06 : (0x06 : Byte).toNat = 0x06 := rfl
  rw [daaNumber_mod, toNat_ite_sub, toNat_ite_sub, k60, k06, daaNumber, if_pos rfl]
  split <;> split <;> omega

/-- The first step of the add path keeps the low nibble that the second one tests. -/
theorem lowNibble_daa_high (a : Byte) (high : Bool) :
    ((if high then a + 0x60 else a) &&& 0x0F).toNat = a.toNat % 16 := by
  have nibble : ∀ v : Byte, (v &&& 0x0F).toNat = v.toNat % 16 := fun v => Nat.and_two_pow_sub_one_eq_mod v.toNat 4
  have k60 : (0x60 : Byte).toNat = 0x60 := rfl
  rw [nibble, toNat_ite_add, k60]
  split <;> omega

/-- A write of Z and C with H cleared, in closed form: N and bits 3..0 are kept. -/
theorem daaFlags_eq (z c : Bool) (f : Byte) :
    flagSetBool flagC c (flagSetBool flagH false (flagSetBool flagZ z f)) =
      flagsByte z (asBool flagN f) false c f := by
  revert f
  cases z <;> cases c <;> decide

/-- DAA in closed form (42_alu8 R154). -/
theorem daaAdjust_eq (a f : Byte) : daaAdjust a f =
    (byteOf (daaNumber (asBool flagN f) (daaHigh a f) (daaLow a f) a.toNat),
      flagsByte (decide (daaNumber (asBool flagN f) (daaHigh a f) (daaLow a f) a.toNat = 0))
        (asBool flagN f) false (daaHigh a f) f) := by
  unfold daaAdjust daaHigh daaLow
  cases n : asBool flagN f with
  | true =>
    simp only [if_true, daa_sub_eq, daaFlags_eq, byteOf_eq_zero_iff, daaNumber_mod, n, Bool.not_true,
      Bool.false_and, Bool.or_false]
  | false =>
    simp only [Bool.false_eq_true, if_false, lowNibble_daa_high, daa_add_eq, daaFlags_eq, byteOf_eq_zero_iff,
      daaNumber_mod, n, Bool.not_false, Bool.true_and]

theorem exec_daa (s : State) : exec .daa s = .next ((modifyReg .a daaAdjust s).setPc (s.pc + 1)) :=
  exec_eq .daa s

/-- Settles O34: the effect is a read-modify-write of A by DAA's rule. -/
theorem daaAdjusts : Obligations.DaaAdjusts := by
  unfold Obligations.DaaAdjusts
  refine fun s => ⟨rfl, ?_⟩
  rw [exec_daa, modifyReg, daaAdjust_eq]
  rfl

/-! ### CPL, SCF and CCF -/

theorem not_eq_byteOf (v : Byte) : ~~~v = byteOf (255 - v.toNat) :=
  eq_byteOf (by rw [BitVec.toNat_not]; omega)

theorem cplFlags_eq (f : Byte) : cplFlags f = flagsByte (asBool flagZ f) true true (asBool flagC f) f := by
  revert f; decide

theorem scfFlags_eq (f : Byte) : scfFlags f = flagsByte (asBool flagZ f) false false true f := by
  revert f; decide

theorem ccfFlags_eq (f : Byte) : ccfFlags f = flagsByte (asBool flagZ f) false false (!(asBool flagC f)) f := by
  revert f; decide

theorem exec_cpl (s : State) : exec .cpl s = .next (((s.set8 .a (~~~s.a)).setF (cplFlags s.f)).setPc (s.pc + 1)) :=
  exec_eq .cpl s

theorem exec_scf (s : State) : exec .scf s = .next ((s.setF (scfFlags s.f)).setPc (s.pc + 1)) :=
  exec_eq .scf s

theorem exec_ccf (s : State) : exec .ccf s = .next ((s.setF (ccfFlags s.f)).setPc (s.pc + 1)) :=
  exec_eq .ccf s

/-- Settles O35: each writes F by a rule of its own, and CPL writes A. -/
theorem cplScfCcf : Obligations.CplScfCcf := by
  unfold Obligations.CplScfCcf
  refine fun s => ⟨⟨rfl, ?_⟩, ⟨rfl, ?_⟩, ⟨rfl, ?_⟩⟩
  · rw [exec_cpl, not_eq_byteOf, cplFlags_eq]
    rfl
  · rw [exec_scf, scfFlags_eq]
    rfl
  · rw [exec_ccf, ccfFlags_eq]
    rfl

end Sys2Proof.Machine
end

section
/-! PROOF. 16-bit arithmetic: a pair's step of one, ADD HL,rr's flags in closed form under P4 and P5, and each
instruction's encoding and next state (43_alu16 R158 to R161). -/

namespace Sys2Proof.Machine

/-! ### INC rr and DEC rr -/

/-- One less is 65535 more modulo 2^16. -/
theorem sub_one_eq_ofNat (w : Word) : w - 1 = BitVec.ofNat 16 (w.toNat + 65535) := by
  calc w - 1 = w + 65535 := BitVec.sub_eq_add_neg w 1
    _ = BitVec.ofNat 16 (w.toNat + 65535) := BitVec.add_def w 65535

/-- INC rr is 00 pp0 011 (30_encoding R71). -/
theorem encode_incRp (p : Rp) : encode (Form.incRp p).instr = [byteOf (0x03 + 16 * rpCode p)] := by
  cases p <;> rfl

/-- DEC rr is 00 pp1 011 (30_encoding R71). -/
theorem encode_decRp (p : Rp) : encode (Form.decRp p).instr = [byteOf (0x0B + 16 * rpCode p)] := by
  cases p <;> rfl

theorem exec_incRp (p : Rp) (s : State) :
    exec (Form.incRp p).instr s = .next ((s.set16 p.reg (s.get16 p.reg + 1)).setPc (s.pc + 1)) :=
  exec_instr (.incRp p) s

theorem exec_decRp (p : Rp) (s : State) :
    exec (Form.decRp p).instr s = .next ((s.set16 p.reg (s.get16 p.reg - 1)).setPc (s.pc + 1)) :=
  exec_instr (.decRp p) s

/-- Settles O36: each effect is one pair write, of one more or one less. -/
theorem incDecPairs : Obligations.IncDecPairs := by
  unfold Obligations.IncDecPairs
  refine fun p s => ⟨⟨encode_incRp p, ?_⟩, ⟨encode_decRp p, ?_⟩⟩
  · rw [exec_incRp, BitVec.add_def (s.get16 p.reg) 1]
    rfl
  · rw [exec_decRp, sub_one_eq_ofNat]

/-! ### ADD HL,rr -/

/-- The bit that P4's mask selects (00_scope R7). -/
def h16Bit (m : H16Mask) : Nat :=
  match m with
  | .m0100 => 8
  | .m1000 => 12

theorem h16Bit_lt (m : H16Mask) : h16Bit m < 16 := by
  cases m <;> decide

theorem h16Value_eq (m : H16Mask) : h16Value m = BitVec.twoPow 16 (h16Bit m) := by
  cases m <;> rfl

/-- A word under P4's mask is not zero exactly when the mask's bit is set. -/
theorem and_h16Value_ne_zero (w : Word) (m : H16Mask) :
    decide (w &&& h16Value m ≠ 0) = w.getLsbD (h16Bit m) := by
  have mask : BitVec.twoPow 16 (h16Bit m) ≠ 0 := by cases m <;> decide
  rw [h16Value_eq, BitVec.and_twoPow]
  cases w.getLsbD (h16Bit m) with
  | false => rfl
  | true => exact decide_eq_true mask

/-- The half-carry of a word add is the carry into the bit that P4 names (43_alu16 R160). -/
theorem half16_add (m : H16Mask) (x y : Word) :
    decide ((x ^^^ y ^^^ (x + y)) &&& h16Value m ≠ 0) = BitVec.carry (h16Bit m) x y false := by
  rw [and_h16Value_ne_zero, BitVec.getLsbD_xor, BitVec.getLsbD_xor, BitVec.getLsbD_add (h16Bit_lt m),
    ← Bool.xor_assoc (x.getLsbD _), ← Bool.xor_assoc, Bool.xor_self, Bool.false_xor]

/-- P4's two values say which carry H is (43_alu16 R160). -/
theorem half16_unique {m : H16Mask} {x y : Word} {h : Bool}
    (into8 : m = .m0100 → h = decide (x.toNat % 256 + y.toNat % 256 > 255))
    (outOf11 : m = .m1000 → h = decide (x.toNat % 4096 + y.toNat % 4096 > 4095)) :
    h = BitVec.carry (h16Bit m) x y false := by
  cases m with
  | m0100 => exact into8 rfl
  | m1000 => exact outOf11 rfl

/-- A write of N, H and C with N cleared, in closed form: Z and bits 3..0 are kept (10_state R22, R23). -/
theorem add16Flags_keep (h c : Bool) (f : Byte) :
    flagSetBool flagC c (flagSetBool flagH h (flagSetBool flagN false f)) =
      flagsByte (asBool flagZ f) false h c f := by
  revert f
  cases h <;> cases c <;> decide

/-- A write of Z over the named flags replaces Z alone (10_state R24). -/
theorem flagSetBool_flagsByte_z (z old h c : Bool) (f : Byte) :
    flagSetBool flagZ z (flagsByte old false h c f) = flagsByte z false h c f := by
  revert f
  cases z <;> cases old <;> cases h <;> cases c <;> decide

theorem ofNat16_eq_zero_iff (n : Nat) : BitVec.ofNat 16 n = 0 ↔ n % 65536 = 0 := by
  rw [← BitVec.toNat_inj, BitVec.toNat_ofNat]
  rfl

/-- ADD HL,rr's flags in closed form, with Z as P5's two values say (43_alu16 R160). -/
theorem add16Combine_flags {cfg : Config} {x y : Word} {f : Byte} {z : Bool}
    (write : cfg.z16Add = .write → z = decide ((x.toNat + y.toNat) % 65536 = 0))
    (keep : cfg.z16Add = .keep → z = asBool flagZ f) :
    (add16Combine cfg x y f).2 = flagsByte z false (BitVec.carry (h16Bit cfg.h16Mask) x y false)
      (decide (x.toNat + y.toNat > 65535)) f := by
  simp only [add16Combine, half16_add, add16Flags_keep]
  cases rule : cfg.z16Add with
  | write => simp only [flagSetBool_flagsByte_z, BitVec.add_def, ofNat16_eq_zero_iff, write rule]
  | keep => simp only [keep rule]

/-- ADD HL,rr is 00 pp1 001 (30_encoding R71). -/
theorem encode_addHlRp (p : Rp) : encode (Form.addHlRp p).instr = [byteOf (0x09 + 16 * rpCode p)] := by
  cases p <;> rfl

theorem exec_addHlRp (p : Rp) (s : State) : exec (Form.addHlRp p).instr s =
    .next (((s.set16 .hl (cat s.h s.l + s.get16 p.reg)).setF
      (add16Combine s.config (cat s.h s.l) (s.get16 p.reg) s.f).2).setPc (s.pc + 1)) :=
  exec_instr (.addHlRp p) s

/-- Settles O37: P4 and P5 fix H and Z, and the sum and the other flags are the same under all their values. -/
theorem addHlPair : Obligations.AddHlPair := by
  unfold Obligations.AddHlPair
  intro p s h z x y into8 outOf11 write keep
  refine ⟨encode_addHlRp p, ?_⟩
  obtain rfl := half16_unique into8 outOf11
  rw [exec_addHlRp, add16Combine_flags write keep, BitVec.add_def (cat s.h s.l)]

/-! ### ADD SP,e8 -/

theorem exec_addSpE8 (e : Byte) (s : State) : exec (.addSpE8 e) s =
    .next (((s.setSp (s.sp + sext16 e)).setF (spOffsetFlags s.sp e s.f)).setPc (s.pc + 2)) :=
  exec_eq (.addSpE8 e) s

/-- Settles O38: SP moves by the sign-extended offset, and its two bytes at PC run it. -/
theorem addSpOffset : Obligations.AddSpOffset := by
  unfold Obligations.AddSpOffset
  refine fun e s => ⟨rfl, runsFetched rfl s, ?_⟩
  rw [exec_addSpE8, sext16_eq, spOffsetFlags_eq]

end Sys2Proof.Machine
end

section
/-! PROOF. Rotates, shifts and the bit operations as arithmetic on the byte's number, then each instruction's
encoding and next state (44_rotate_shift_bit R162 to R187). -/

namespace Sys2Proof.Machine

/-! ### Bits as numbers -/

theorem getLsbD_eq_decide (v : Byte) (i : Nat) : v.getLsbD i = decide (v.toNat / 2 ^ i % 2 = 1) := by
  rw [BitVec.getLsbD, Nat.testBit_eq_decide_div_mod_eq]

theorem toNat_getLsbD (v : Byte) (i : Nat) : (v.getLsbD i).toNat = v.toNat / 2 ^ i % 2 := by
  rw [BitVec.getLsbD, Nat.toNat_testBit]

theorem getLsbD_top (v : Byte) : v.getLsbD 7 = decide (v.toNat ≥ 128) := by
  have bound := v.isLt
  rw [getLsbD_eq_decide, decide_eq_decide]
  omega

theorem getLsbD_bottom (v : Byte) : v.getLsbD 0 = decide (v.toNat % 2 = 1) := by
  rw [getLsbD_eq_decide, Nat.pow_zero, Nat.div_one]

theorem toNat_shiftUp (v : Byte) (i : Nat) : (v <<< i).toNat = v.toNat * 2 ^ i % 256 := by
  rw [BitVec.toNat_shiftLeft, Nat.shiftLeft_eq]

theorem toNat_shiftDown (v : Byte) (i : Nat) : (v >>> i).toNat = v.toNat / 2 ^ i := by
  rw [BitVec.toNat_ushiftRight, Nat.shiftRight_eq_div_pow]

theorem toNat_carryByte_top (c : Bool) : (carryByte c <<< 7).toNat = 128 * c.toNat := by
  cases c <;> rfl

theorem toNat_and_top (v : Byte) : (v &&& 0x80).toNat = 128 * (v.toNat / 128) := by
  have bound := v.isLt
  rw [BitVec.toNat_and, show (0x80 : Byte).toNat = 2 ^ 7 from rfl, Nat.and_two_pow, Nat.toNat_testBit]
  omega

/-- A part above bit i and a part below it join to their sum. -/
theorem toNat_or_of_lt {high low : Byte} {i a : Nat} (above : high.toNat = 2 ^ i * a)
    (below : low.toNat < 2 ^ i) : (high ||| low).toNat = high.toNat + low.toNat := by
  rw [BitVec.toNat_or, above, Nat.two_pow_add_eq_or_of_lt below]

/-! ### Rotates and shifts -/

/-- Shift up by one and let c in at bit 0. -/
theorem shiftUp_or_carryByte (v : Byte) (c : Bool) :
    v <<< 1 ||| carryByte c = byteOf (2 * v.toNat % 256 + c.toNat) := by
  have carry := c.toNat_le
  have up := toNat_shiftUp v 1
  have low := toNat_carryByte c
  apply eq_byteOf
  rw [toNat_or_of_lt (i := 1) (a := v.toNat % 128) (by omega) (by omega)]
  omega

/-- Shift down by one and let in at bit 7 what `top` holds there. -/
theorem shiftDown_or_top {v top : Byte} {k : Nat} (high : top.toNat = 128 * k) :
    v >>> 1 ||| top = byteOf (v.toNat / 2 + 128 * k) := by
  have bound := v.isLt
  have topBound := top.isLt
  have down := toNat_shiftDown v 1
  apply eq_byteOf
  rw [BitVec.or_comm, toNat_or_of_lt (i := 7) high (by omega)]
  omega

/-- The two nibbles exchanged. -/
theorem swap_nibbles (v : Byte) : v <<< 4 ||| v >>> 4 = byteOf (v.toNat % 16 * 16 + v.toNat / 16) := by
  have bound := v.isLt
  have up := toNat_shiftUp v 4
  have down := toNat_shiftDown v 4
  apply eq_byteOf
  rw [toNat_or_of_lt (i := 4) (a := v.toNat % 16) (by omega) (by omega)]
  omega

/-- A rotate or shift in closed form: the bits moved, what comes in at the free end, and what leaves at the
other (44_rotate_shift_bit R166 to R181). -/
theorem rotFunction_eq (op : RotOp) (v : Byte) (carry : Bool) :
    rotFunction op v carry = (closedRot op v carry, closedRotCarry op v) := by
  have bound := v.isLt
  have top : (v.getLsbD 7).toNat = v.toNat / 128 := by rw [toNat_getLsbD]; omega
  have bottom : (v.getLsbD 0).toNat = v.toNat % 2 := by rw [toNat_getLsbD, Nat.pow_zero, Nat.div_one]
  refine Prod.ext ?_ ?_
  · cases op with
    | rlc => exact (shiftUp_or_carryByte v _).trans (by rw [top]; rfl)
    | rrc => exact (shiftDown_or_top (toNat_carryByte_top _)).trans (by rw [bottom]; rfl)
    | rl => exact shiftUp_or_carryByte v carry
    | rr => exact shiftDown_or_top (toNat_carryByte_top carry)
    | sla => exact eq_byteOf ((toNat_shiftUp v 1).trans (by omega))
    | sra => exact (shiftDown_or_top (toNat_and_top v)).trans (by rw [Nat.mul_comm 128]; rfl)
    | swap => exact swap_nibbles v
    | srl => exact eq_byteOf ((toNat_shiftDown v 1).trans (by omega))
  · cases op with
    | rlc | rl | sla => exact getLsbD_top v
    | rrc | rr | sra | srl => exact getLsbD_bottom v
    | swap => rfl

/-- An escaped rotate or shift writes all four named flags: Z from the result, N = H = 0
(44_rotate_shift_bit R166 to R181). -/
theorem rotModify_eq (op : RotOp) (v f : Byte) : rotModify op v f = (closedRot op v (asBool flagC f),
    flagsByte (decide ((closedRot op v (asBool flagC f)).toNat = 0)) false false (closedRotCarry op v) f) := by
  have zero (r : Byte) : r = 0 ↔ r.toNat = 0 := BitVec.toNat_eq
  simp only [rotModify, rotFunction_eq, writeFlags_eq, zero]

/-- A one-byte rotate of A writes all four named flags with Z = N = H = 0 (44_rotate_shift_bit R162 to R165). -/
theorem rotAModify_eq (op : RotOp) (v f : Byte) : rotAModify op v f =
    (closedRot op v (asBool flagC f), flagsByte false false false (closedRotCarry op v) f) := by
  simp only [rotAModify, rotFunction_eq, writeFlags_eq]

/-- A rotate or shift of a register is CB, then 00 rot rrr (30_encoding R73). -/
theorem encode_rotR (op : RotOp) (r : Reg8) :
    encode (Form.rotR op r).instr = [0xCB, byteOf (8 * rotCode op + reg8Code r)] := by
  cases op <;> cases r <;> rfl

/-- A rotate or shift of the byte at HL is CB, then 00 rot 110 (30_encoding R73). -/
theorem encode_rotIndHl (op : RotOp) :
    encode (Form.rotIndHl op).instr = [0xCB, byteOf (8 * rotCode op + 6)] := by
  cases op <;> rfl

/-- Settles O40: the form's effect is a read-modify-write of the register by the rotate's rule. -/
theorem rotatesOfRegister : Obligations.RotatesOfRegister := by
  unfold Obligations.RotatesOfRegister
  refine fun op r s => ⟨encode_rotR op r, ?_⟩
  rw [exec_instr, formEffect, modifyReg, rotModify_eq]
  rfl

/-- Settles O41: the form's effect is a read-modify-write of the byte at HL by the rotate's rule. -/
theorem rotatesOfIndHl : Obligations.RotatesOfIndHl := by
  unfold Obligations.RotatesOfIndHl
  refine fun op s => ⟨encode_rotIndHl op, ?_⟩
  rw [exec_instr, formEffect, modifyHl, rotModify_eq]
  rfl

/-- A row whose effect is the one-byte rotate of A by `op` and which leaves PC at the next byte. -/
theorem exec_rotA {op : RotOp} {x : Form} {s : State} (effect : formEffect x s = modifyReg .a (rotAModify op) s)
    (next : formPc x s = s.pc + 1) : exec x.instr s =
      .next (((s.set8 .a (closedRot op s.a (s.flag flagC))).setF
        (flagsByte false false false (closedRotCarry op s.a) s.f)).setPc (s.pc + 1)) := by
  rw [exec_instr, effect, next, modifyReg, rotAModify_eq]
  rfl

/-- Settles O39: each of the four is a read-modify-write of A by the one-byte rule. -/
theorem rotatesOfA : Obligations.RotatesOfA := by
  unfold Obligations.RotatesOfA
  exact fun s => ⟨⟨rfl, exec_rotA (x := .rlca) rfl rfl⟩, ⟨rfl, exec_rotA (x := .rrca) rfl rfl⟩,
    ⟨rfl, exec_rotA (x := .rla) rfl rfl⟩, ⟨rfl, exec_rotA (x := .rra) rfl rfl⟩⟩

/-! ### BIT -/

/-- BIT in closed form: Z is the complement of the bit and C is kept (44_rotate_shift_bit R182). -/
theorem bitTestFlags_eq (b : Nat) (v f : Byte) : bitTestFlags b v f =
    flagsByte (decide (v.toNat / 2 ^ b % 2 = 0)) false true (asBool flagC f) f := by
  have complement : (!v.getLsbD b) = decide (v.toNat / 2 ^ b % 2 = 0) := by
    rw [getLsbD_eq_decide, ← decide_not, decide_eq_decide]
    omega
  rw [bitTestFlags, writeZNH_eq, complement]

/-- The second byte of an escaped instruction with a bit number (30_encoding R65, R73). -/
theorem encodeBit_eq (base b : Nat) : encodeBit (byteOf base) b = [0xCB, byteOf (base + 8 * b)] := by
  rw [encodeBit, byteOf, byteOf, BitVec.ofNat_add]

/-- The second byte with a bit number and a register, in the order of its fields (30_encoding R73). -/
theorem encodeBit_reg8Code (base b : Nat) (r : Reg8) :
    encodeBit (byteOf (base + reg8Code r)) b = [0xCB, byteOf (base + 8 * b + reg8Code r)] := by
  rw [encodeBit_eq, Nat.add_right_comm]

/-- BIT b,r is CB, then 01 bbb rrr (30_encoding R73). -/
theorem encode_bitR (b : Nat) (r : Reg8) :
    encode (Form.bitR b r).instr = [0xCB, byteOf (0x40 + 8 * b + reg8Code r)] := by
  rw [← encodeBit_reg8Code]
  cases r <;> rfl

/-- RES b,r is CB, then 10 bbb rrr (30_encoding R73). -/
theorem encode_resR (b : Nat) (r : Reg8) :
    encode (Form.resR b r).instr = [0xCB, byteOf (0x80 + 8 * b + reg8Code r)] := by
  rw [← encodeBit_reg8Code]
  cases r <;> rfl

/-- SET b,r is CB, then 11 bbb rrr (30_encoding R73). -/
theorem encode_setR (b : Nat) (r : Reg8) :
    encode (Form.setR b r).instr = [0xCB, byteOf (0xC0 + 8 * b + reg8Code r)] := by
  rw [← encodeBit_reg8Code]
  cases r <;> rfl

theorem exec_bitIndHl (b : Nat) (s : State) : exec (.bitIndHl b) s =
    .next (((s.noteRead (cat s.h s.l).toNat).setF
      (bitTestFlags b (s.peek (cat s.h s.l).toNat) s.f)).setPc (s.pc + 2)) :=
  exec_eq (.bitIndHl b) s

/-- Settles O42: the form's effect is a write of F by BIT's rule, after the read for the byte at HL. -/
theorem bitTests : Obligations.BitTests := by
  unfold Obligations.BitTests
  refine fun b s _ => ⟨fun r => ⟨encode_bitR b r, ?_⟩, encodeBit_eq 0x46 b, ?_⟩
  · rw [exec_instr, formEffect, bitTestFlags_eq]
    rfl
  · rw [exec_bitIndHl, bitTestFlags_eq]
    rfl

/-! ### RES and SET -/

/-- The byte with bit b cleared, as arithmetic on its number. -/
def bitCleared (b : Nat) (v : Byte) : Byte := byteOf (v.toNat - v.toNat / 2 ^ b % 2 * 2 ^ b)

/-- The byte with bit b set, as arithmetic on its number. -/
def bitRaised (b : Nat) (v : Byte) : Byte := byteOf (v.toNat + (1 - v.toNat / 2 ^ b % 2) * 2 ^ b)

theorem toNat_bitMask {b : Nat} (h : b < 8) : (bitMask b).toNat = 2 ^ b := by
  rw [bitMask, ← BitVec.twoPow_eq, BitVec.toNat_twoPow_of_lt h]

/-- Bytes with no bit in common join to their sum. -/
theorem toNat_or_of_and_eq_zero {x y : Byte} (h : x &&& y = 0) : (x ||| y).toNat = x.toNat + y.toNat := by
  rw [← BitVec.add_eq_or_of_and_eq_zero x y h, BitVec.toNat_add_of_and_eq_zero h]

/-- What a mask clears has no bit in common with the mask. -/
theorem and_not_and_self (v m : Byte) : (v &&& ~~~m) &&& m = 0 := by
  rw [BitVec.and_assoc, BitVec.and_comm (~~~m), BitVec.and_not_self]
  exact BitVec.and_zero

/-- A byte is its bits outside a mask and its bits inside it. -/
theorem and_not_or_and (v m : Byte) : (v &&& ~~~m) ||| (v &&& m) = v := by
  ext i
  simp only [BitVec.getElem_or, BitVec.getElem_and, BitVec.getElem_not]
  cases m[i] <;> simp

/-- The bits that a mask raises may be cleared first. -/
theorem and_not_or_self (v m : Byte) : (v &&& ~~~m) ||| m = v ||| m := by
  ext i
  simp only [BitVec.getElem_or, BitVec.getElem_and, BitVec.getElem_not]
  cases m[i] <;> simp

/-- The bits outside bit b and the bit's own value add up to the byte. -/
theorem toNat_and_not_bitMask {b : Nat} (h : b < 8) (v : Byte) :
    (v &&& ~~~(bitMask b)).toNat + v.toNat / 2 ^ b % 2 * 2 ^ b = v.toNat := by
  have bit : (v &&& bitMask b).toNat = v.toNat / 2 ^ b % 2 * 2 ^ b := by
    rw [BitVec.toNat_and, toNat_bitMask h, Nat.and_two_pow, Nat.toNat_testBit]
  have apart : (v &&& ~~~(bitMask b)) &&& (v &&& bitMask b) = 0 := by
    rw [BitVec.and_comm v (bitMask b), ← BitVec.and_assoc, and_not_and_self]
    exact BitVec.zero_and
  rw [← bit, ← toNat_or_of_and_eq_zero apart, and_not_or_and]

/-- RES in closed form (44_rotate_shift_bit R184). -/
theorem resModify_eq {b : Nat} (h : b < 8) (v f : Byte) : resModify b v f = (bitCleared b v, f) := by
  have bound := v.isLt
  have parts := toNat_and_not_bitMask h v
  have cleared : v &&& (0xFF ^^^ bitMask b) = v &&& ~~~(bitMask b) :=
    congrArg (v &&& ·) BitVec.allOnes_xor
  rw [resModify, cleared, bitCleared]
  exact congrArg (·, f) (eq_byteOf (by omega))

/-- SET in closed form: the other bits, and bit b over them (44_rotate_shift_bit R186). -/
theorem setModify_eq {b : Nat} (h : b < 8) (v f : Byte) : setModify b v f = (bitRaised b v, f) := by
  have parts := toNat_and_not_bitMask h v
  have raised : (v ||| bitMask b).toNat = v.toNat + (1 - v.toNat / 2 ^ b % 2) * 2 ^ b := by
    rw [← and_not_or_self, toNat_or_of_and_eq_zero (and_not_and_self v _), toNat_bitMask h]
    obtain bit | bit := Nat.mod_two_eq_zero_or_one (v.toNat / 2 ^ b) <;> rw [bit] at parts ⊢ <;> omega
  have below := (v ||| bitMask b).isLt
  rw [setModify, bitRaised]
  exact congrArg (·, f) (eq_byteOf (by omega))

theorem setF_self {s : State} {f : Byte} (h : s.f = f) : s.setF f = s := by
  subst h; rfl

/-- A rule that keeps F writes the register alone. -/
theorem modifyReg_keepF {g : Byte → Byte → Byte × Byte} {k : Byte → Byte} (h : ∀ v f, g v f = (k v, f))
    (r : Reg8) (s : State) : modifyReg r g s = s.set8 r (k (s.get8 r)) := by
  rw [modifyReg, h, setF_self (set8_f r _ s)]

/-- A rule that keeps F writes the byte at HL alone, after reading it. -/
theorem modifyHl_keepF {g : Byte → Byte → Byte × Byte} {k : Byte → Byte} (h : ∀ v f, g v f = (k v, f))
    (s : State) : modifyHl g s =
      writeU8 (s.get16 .hl).toNat (k (s.peek (s.get16 .hl).toNat)) (s.noteRead (s.get16 .hl).toNat) := by
  rw [modifyHl, h, setF_self (by rw [writeU8_f, noteRead_f])]

theorem exec_resIndHl (b : Nat) (s : State) :
    exec (.resIndHl b) s = .next ((modifyHl (resModify b) s).setPc (s.pc + 2)) :=
  exec_eq (.resIndHl b) s

theorem exec_setIndHl (b : Nat) (s : State) :
    exec (.setIndHl b) s = .next ((modifyHl (setModify b) s).setPc (s.pc + 2)) :=
  exec_eq (.setIndHl b) s

/-- Settles O43: every effect is a read-modify-write by RES's or SET's rule, which keeps F. -/
theorem bitResetsAndSets : Obligations.BitResetsAndSets := by
  unfold Obligations.BitResetsAndSets
  intro b s lt
  refine ⟨fun r => ⟨encode_resR b r, ?_⟩, ⟨encodeBit_eq 0x86 b, ?_⟩, fun r => ⟨encode_setR b r, ?_⟩,
    encodeBit_eq 0xC6 b, ?_⟩
  · rw [exec_instr, formEffect, modifyReg_keepF (resModify_eq lt)]
    rfl
  · rw [exec_resIndHl, modifyHl_keepF (resModify_eq lt)]
    rfl
  · rw [exec_instr, formEffect, modifyReg_keepF (setModify_eq lt)]
    rfl
  · rw [exec_setIndHl, modifyHl_keepF (setModify_eq lt)]
    rfl

end Sys2Proof.Machine
end

section
/-! PROOF. Control flow: the encodings with a condition or a vector, what a conditional call and return do when
taken and when not, then each jump's, call's and return's next state (45_control R189 to R199). -/

namespace Sys2Proof.Machine

/-! ### Encodings -/

/-- JP cc,n16 is 11 0cc 010 and the word, low byte first (45_control R191). -/
theorem encode_jpCc (cc : Cc) (w : Word) :
    encode (Form.jpCc cc w).instr = [byteOf (0xC2 + 8 * ccCode cc), lo w, hi w] := by
  cases cc <;> rfl

theorem wellFormed_jpCc (cc : Cc) (w : Word) : (Form.jpCc cc w).instr.wellFormed = true := by
  cases cc <;> rfl

/-- JR cc,e8 is 00 1cc 000 and the offset (45_control R193). -/
theorem encode_jrCc (cc : Cc) (e : Byte) :
    encode (Form.jrCc cc e).instr = [byteOf (0x20 + 8 * ccCode cc), e] := by
  cases cc <;> rfl

theorem wellFormed_jrCc (cc : Cc) (e : Byte) : (Form.jrCc cc e).instr.wellFormed = true := by
  cases cc <;> rfl

/-- CALL cc,n16 is 11 0cc 100 and the word, low byte first (45_control R195). -/
theorem encode_callCc (cc : Cc) (w : Word) :
    encode (Form.callCc cc w).instr = [byteOf (0xC4 + 8 * ccCode cc), lo w, hi w] := by
  cases cc <;> rfl

theorem wellFormed_callCc (cc : Cc) (w : Word) : (Form.callCc cc w).instr.wellFormed = true := by
  cases cc <;> rfl

/-- RET cc is 11 0cc 000 (45_control R197). -/
theorem encode_retCc (cc : Cc) : encode (Form.retCc cc).instr = [byteOf (0xC0 + 8 * ccCode cc)] := by
  cases cc <;> rfl

/-- RST t is 11 yyy 111 (45_control R199). -/
theorem encode_rst (t : Fin 8) : encode (Form.rst t).instr = [byteOf (0xC7 + 8 * t.val)] := by
  fin_cases t <;> rfl

/-! ### Conditional calls and returns -/

/-- A taken call is CALL n16 (45_control R195). -/
theorem exec_callCc_of_holds {cc : Cc} {s : State} (holds : condHolds cc.cond s.f = true) (w : Word) :
    exec (Form.callCc cc w).instr s = .next ((push16 (s.pc + 3) s).setPc w) := by
  rw [exec_instr, formEffect, formPc, if_pos holds, if_pos holds]

/-- An untaken call goes to the next instruction and pushes nothing (45_control R195). -/
theorem exec_callCc_of_fails {cc : Cc} {s : State} (fails : condHolds cc.cond s.f = false) (w : Word) :
    exec (Form.callCc cc w).instr s = .next (s.setPc (s.pc + 3)) := by
  have notHolds := Bool.eq_false_iff.mp fails
  rw [exec_instr, formEffect, formPc, if_neg notHolds, if_neg notHolds]

/-- A taken return is RET (45_control R197). -/
theorem exec_retCc_of_holds {cc : Cc} {s : State} (holds : condHolds cc.cond s.f = true) :
    exec (Form.retCc cc).instr s = .next ((pop16 s).2.setPc (pop16 s).1) := by
  rw [exec_instr, formEffect, formPc, if_pos holds, if_pos holds]

/-- An untaken return goes to the next instruction and pops nothing (45_control R197). -/
theorem exec_retCc_of_fails {cc : Cc} {s : State} (fails : condHolds cc.cond s.f = false) :
    exec (Form.retCc cc).instr s = .next (s.setPc (s.pc + 1)) := by
  have notHolds := Bool.eq_false_iff.mp fails
  rw [exec_instr, formEffect, formPc, if_neg notHolds, if_neg notHolds]

/-! ### The obligations -/

/-- Settles O46: a call's effect is the push alone, made only when its condition holds. -/
theorem callsPushNext : Obligations.CallsPushNext := by
  unfold Obligations.CallsPushNext
  exact fun s w => ⟨
    ⟨rfl, exec_callN16 w s, runsFetched rfl s⟩,
    fun cc => ⟨encode_callCc cc w, runsFetched (wellFormed_callCc cc w) s,
      fun holds => exec_callCc_of_holds holds w, fun fails => exec_callCc_of_fails fails w⟩,
    fun t => ⟨encode_rst t, exec_instr (.rst t) s⟩⟩

/-- Settles O45: a jump has no effect but its PC, which its form's rule gives; the offset's rule is the sign
extension. -/
theorem jumpsSetPc : Obligations.JumpsSetPc := by
  unfold Obligations.JumpsSetPc
  intro s w e cc
  rw [← sext16_eq]
  exact ⟨⟨rfl, exec_eq (.jpN16 w) s, runsFetched rfl s⟩,
    ⟨rfl, exec_eq .jpHl s⟩,
    ⟨encode_jpCc cc w, exec_instr (.jpCc cc w) s, runsFetched (wellFormed_jpCc cc w) s⟩,
    ⟨rfl, exec_eq (.jrE8 e) s, runsFetched rfl s⟩,
    ⟨encode_jrCc cc e, exec_instr (.jrCc cc e) s, runsFetched (wellFormed_jrCc cc e) s⟩⟩

/-- Settles O47: a return's effect is the pop alone, made only when its condition holds. -/
theorem returnsPopTarget : Obligations.ReturnsPopTarget := by
  unfold Obligations.ReturnsPopTarget
  exact fun s => ⟨
    ⟨rfl, exec_ret s⟩,
    fun cc => ⟨encode_retCc cc, exec_retCc_of_holds, exec_retCc_of_fails⟩,
    ⟨rfl, exec_eq .reti s⟩⟩

end Sys2Proof.Machine
end

section
/-! PROOF. The instructions without an operand or an effect on data: NOP, DI and EI, which move PC alone, and
HALT and STOP, which raise (46_misc R200 to R204). -/

namespace Sys2Proof.Machine

/-! ### NOP, DI and EI -/

theorem exec_nop (s : State) : exec .nop s = .next (s.setPc (s.pc + 1)) := exec_eq .nop s

theorem exec_di (s : State) : exec .di s = .next (s.setPc (s.pc + 1)) := exec_eq .di s

theorem exec_ei (s : State) : exec .ei s = .next (s.setPc (s.pc + 1)) := exec_eq .ei s

/-- An instruction that is its opcode alone is run by that opcode at PC, if P8 implements it (30_encoding R90). -/
theorem step_of_opcode {i : Instr} {op : Byte} {s : State} (wellFormed : i.wellFormed = true)
    (encoded : encode i = [op]) (ne : op ≠ escapeByte) (running : s.status = .running)
    (opcode : s.peek s.pc.toNat = op) (implemented : s.config.implements (.primary op) = true) :
    step s = exec i (s.setLog (s.fetchEvents 1)) := by
  have bytes : s.window.take (encode i).length = encode i := by rw [encoded, ← opcode]; rfl
  have ran := runsFetched wellFormed s running (by rwa [key_of_ne_escape opcode ne]) bytes
  rwa [encoded] at ran

/-- Settles O49: P8 decides whether the one opcode byte runs its instruction or raises. -/
theorem nopDiEiOnlyAdvance : Obligations.NopDiEiOnlyAdvance := by
  unfold Obligations.NopDiEiOnlyAdvance
  refine ⟨⟨rfl, rfl, rfl⟩, fun s => ⟨exec_nop s, exec_di s, exec_ei s⟩,
    fun s op listed running opcode => ⟨fun implemented => ?_, fun left => ?_⟩⟩
  · rcases listed with rfl | rfl | rfl
    · exact (step_of_opcode (i := .nop) rfl rfl (by decide) running opcode implemented).trans (exec_nop _)
    · exact (step_of_opcode (i := .di) rfl rfl (by decide) running opcode implemented).trans (exec_di _)
    · exact (step_of_opcode (i := .ei) rfl rfl (by decide) running opcode implemented).trans (exec_ei _)
  · obtain ⟨ne, mapped⟩ : op ≠ escapeByte ∧ (OpcodeKey.primary op).mapped = true := by
      rcases listed with rfl | rfl | rfl <;> decide
    exact step_of_unimplemented_opcode running opcode ne mapped left

/-! ### HALT and STOP -/

theorem exec_halt (s : State) :
    exec .halt s = .next (s.setStatus (.faulted .unimplementedInstruction (.primary 0x76) s.pc)) := exec_eq .halt s

theorem exec_stop (s : State) :
    exec .stop s = .next (s.setStatus (.faulted .unimplementedInstruction (.primary 0x10) s.pc)) := exec_eq .stop s

/-- Settles O50: both opcodes are mapped and no P8 implements them, so each raises after its own byte. -/
theorem haltAndStopRaise : Obligations.HaltAndStopRaise := by
  unfold Obligations.HaltAndStopRaise
  exact fun s => ⟨⟨rfl, rfl, rfl⟩, fun c => ⟨implements_halt c, implements_stop c⟩, exec_halt s, exec_stop s,
    fun running opcode => step_of_unimplemented_opcode running opcode (by decide) rfl (implements_halt s.config),
    fun running opcode => step_of_unimplemented_opcode running opcode (by decide) rfl (implements_stop s.config)⟩

end Sys2Proof.Machine
end

section
/-! PROOF. What the step that raises an error records and what it leaves as it was (60_exceptions R206). -/

namespace Sys2Proof.Machine

/-- A running step that ends Faulted found a key at PC that P8 does not implement (60_exceptions R207, R208). -/
theorem not_implemented_of_faulting_step {s t : State} {kind : ErrorKind} {key : OpcodeKey} {pc0 : Word}
    (running : s.status = .running) (stepped : step s = .next t) (faulted : t.status = .faulted kind key pc0) :
    s.config.implements s.key = false := by
  obtain ⟨t', stepped', stillRunning⟩ := runningStepsStopOnlyAtDispatch s running
  cases stepped.symm.trans stepped'
  simpa [faulted] using stillRunning

/-- A key that P8 does not implement raises one of the two errors at PC, after its opcode bytes alone
(60_exceptions R205, R206). -/
theorem step_of_not_implemented {s : State} (running : s.status = .running)
    (left : s.config.implements s.key = false) :
    ∃ kind : ErrorKind, step s = .next ((s.setLog (s.fetchEvents (keyBytes s.key))).setStatus
      (.faulted kind s.key s.pc)) := by
  cases mapped : s.key.mapped with
  | true => exact ⟨_, step_of_unimplemented running mapped left⟩
  | false => exact ⟨_, step_of_unmapped running mapped⟩

/-- Settles O10: only dispatch raises, and what it raises names PC and the key there over the state before. -/
theorem errorsArePrecise : Obligations.ErrorsArePrecise := by
  unfold Obligations.ErrorsArePrecise
  intro s t kind key pc0 running stepped faulted
  have left := not_implemented_of_faulting_step running stepped faulted
  obtain ⟨kind', raised⟩ := step_of_not_implemented running left
  cases stepped.symm.trans raised
  cases faulted
  exact ⟨rfl, rfl, rfl⟩

end Sys2Proof.Machine
end
